-- ==== Sys2Proof/Word.lean ====
section
/-! DEFINITION. The word types of S9227-TWG (spec/00_scope.md R7, spec/10_state.md).  Everything is unsigned. -/

namespace Sys2Proof

/-- A host data word, a configuration register, a counter: 16 bits (`TW = CW = 16`, R5). -/
abbrev Word := BitVec 16

/-- A word address of the host address space: 10 bits (R40). -/
abbrev Addr := BitVec 10

/-- A command word, the 32-bit serial form of one host transaction (R61). -/
abbrev CmdWord := BitVec 32

/-- One sample as the port `adc_data` carries it: 10 bits (`SAMPLE_BITS` of this hardware, R5, D6). -/
abbrev Sample := BitVec 10

/-- `readThresholdClock`: 17 bits, so that 65535 + 255 fits (R19). -/
abbrev Threshold := BitVec 17

/-- `cursor`: 10 bits, so that it holds 0 .. 512 (R21). -/
abbrev Cursor := BitVec 10

/-- An index of the buffer window, `ADDR[8:0]`: 9 bits (R62). -/
abbrev BufIndex := BitVec 9

end Sys2Proof
end

