-- ==== Sys2Proof/Config.lean ====
section
/-! DEFINITION. The parameter record of spec/00_scope.md R5, R6, and the free values: constants without a body for everything
the spec leaves to the implementation or to the environment. -/

namespace Sys2Proof

/-- The parameter record `P` (R5).  `TW` and `CW` are 16 for every record (R6) and so are not fields. -/
structure Params where
  /-- `PIXEL_COUNT`, samples per cycle. -/
  pixelCount : Nat
  /-- `PIPELINE_LATENCY_CLOCKS`. -/
  pipelineLatencyClocks : Nat
  /-- `SAMPLE_BITS`, 8 or 10. -/
  sampleBits : Nat
  /-- `HALF_TICKS_MIN`, the least legal half-period. -/
  halfTicksMin : Nat
  /-- `HALF_TICKS_MAX`, the greatest legal half-period. -/
  halfTicksMax : Nat
  /-- `VIDEO_CHANNEL`, driven on `adc_chan`. -/
  videoChannel : BitVec 4
deriving DecidableEq, Repr

/-- The constraints every parameter record must meet (R6). -/
abbrev Params.Legal (p : Params) : Prop :=
  1 ≤ p.pixelCount ∧ p.pixelCount ≤ 512 ∧ p.pipelineLatencyClocks ≤ 255 ∧ (p.sampleBits = 8 ∨ p.sampleBits = 10) ∧
    1 ≤ p.halfTicksMin ∧ p.halfTicksMin ≤ p.halfTicksMax ∧ p.halfTicksMax ≤ 65535

/-- Free value behind the OPEN parameter `HALF_TICKS_MIN` (D8; log 4). -/
opaque Config.openHalfTicksMin : Nat
/-- Free value behind the OPEN parameter `HALF_TICKS_MAX`, counted from `HALF_TICKS_MIN` (D8; log 4). -/
opaque Config.openHalfTicksSpan : Nat
/-- The OPEN parameter `VIDEO_CHANNEL` (D31; log 4). -/
opaque Config.videoChannel : BitVec 4

/-- `HALF_TICKS_MIN`: any number from 1 to 65535, which one is not known (R6, D8; log 4). -/
def Config.halfTicksMin : Nat := Config.openHalfTicksMin % 65535 + 1

/-- `HALF_TICKS_MAX`: any number from `HALF_TICKS_MIN` to 65535, which one is not known (R6, D8; log 4). -/
def Config.halfTicksMax : Nat :=
  Config.halfTicksMin + Config.openHalfTicksSpan % (65536 - Config.halfTicksMin)

/-- The parameter record of this hardware (R5, column "this hardware"). -/
def Config.params : Params where
  pixelCount := 512
  pipelineLatencyClocks := 14
  sampleBits := 10
  halfTicksMin := Config.halfTicksMin
  halfTicksMax := Config.halfTicksMax
  videoChannel := Config.videoChannel

/-- Free value: what entry `i` of `buf` holds after reset number `epoch` until it is pushed (U6; log 7). -/
opaque Config.freeEntry (epoch i : Nat) : Sample

/-! Free values: what the environment drives on each input port at edge `n`, where no sample was placed (R96; log 2). -/

/-- Free value of `rst` at edge `n`. -/
opaque Config.freeRst (n : Nat) : Bool
/-- Free value of `h_valid` at edge `n`. -/
opaque Config.freeHValid (n : Nat) : Bool
/-- Free value of `h_we` at edge `n`. -/
opaque Config.freeHWe (n : Nat) : Bool
/-- Free value of `h_addr` at edge `n`. -/
opaque Config.freeHAddr (n : Nat) : Addr
/-- Free value of `h_wdata` at edge `n`. -/
opaque Config.freeHWdata (n : Nat) : Word
/-- Free value of `adc_done` at edge `n`. -/
opaque Config.freeAdcDone (n : Nat) : Bool
/-- Free value of `adc_data` at edge `n`. -/
opaque Config.freeAdcData (n : Nat) : Sample
/-- Free value of `eos_in` at edge `n`. -/
opaque Config.freeEosIn (n : Nat) : Bool

end Sys2Proof
end

