-- ==== Sys2Proof/Syntax.lean ====
section
/-! DEFINITION. The instructions of S9227-TWG: the encoded host transactions, one constructor per row of
spec/opcode_table.json (spec/30_encoding.md R78, R83).  ILLEGAL and HOST_NONE have no row and are no instruction. -/

namespace Sys2Proof

/-- A host transaction.  Operands are those R78 gives: a 16-bit `DATA`, a 9-bit buffer index.  The always refused writes keep the
`DATA` their encoding carries (R204, R205), so that no bit of a canonical word is dropped (R80; log 14). -/
inductive Instr where
  | rdId
  | rdCtrl
  | rdStatus
  | rdHighTicks
  | rdLowTicks
  | rdTrigHighClocks
  | rdCycleLimitClocks
  | rdClockCount
  | rdReadThresholdLo
  | rdReadThresholdHi
  | rdCursor
  | rdTickCount
  | rdTickCompare
  | rdPixelCount
  | rdPipelineLatency
  | rdBuf (i : BufIndex)
  | wrHighTicks (v : Word)
  | wrLowTicks (v : Word)
  | wrTrigHighClocks (v : Word)
  | wrCycleLimitClocks (v : Word)
  | start
  | wrCtrlNop
  | wrRoId (d : Word)
  | wrRoStatus (d : Word)
  | wrRoClockCount (d : Word)
  | wrRoReadThresholdLo (d : Word)
  | wrRoReadThresholdHi (d : Word)
  | wrRoCursor (d : Word)
  | wrRoTickCount (d : Word)
  | wrRoTickCompare (d : Word)
  | wrRoPixelCount (d : Word)
  | wrRoPipelineLatency (d : Word)
  | wrBuf (i : BufIndex) (d : Word)
deriving DecidableEq, Repr

end Sys2Proof
end

