-- ==== Sys2Proof/Machine/State.lean ====
section
/-! DEFINITION. The machine state of S9227-TWG as plain data: every element of spec/10_state.md, the response ports, the
placed input samples and the model's own counters; the state right after reset (R39); faults and refusals. -/

namespace Sys2Proof.Machine

/-- `clockPhase` (R17): which half-period is being emitted.  Codes in R76. -/
inductive Phase where
  | low
  | high
deriving DecidableEq, Repr

/-- `state` of the orchestrator (R25, R150).  Codes in R75; codes 5 to 7 are never taken. -/
inductive CycleState where
  | idle
  | priming
  | integrating
  | reading
  | complete
deriving DecidableEq, Repr

/-- The four errors `raise` can record (R220). -/
inductive ErrorKind where
  | configurationError
  | timingOverrunError
  | acquisitionTimeout
  | capacityExceeded
deriving DecidableEq, Repr

/-- The response to a transaction: `h_rdata` and `h_err` (R60, R63). -/
structure Response where
  /-- `h_rdata`. -/
  rdata : Word
  /-- `h_err`, true for a refused transaction. -/
  err : Bool
deriving DecidableEq, Repr

/-- The input ports as sampled at one edge (R10).  `hRsv` is the field `RSV` of the command word, which the ports do not carry: it
is 0 but for a script's RAW word (R61, R81; log 6). -/
structure PortSample where
  rst : Bool
  hValid : Bool
  hWe : Bool
  hRsv : BitVec 5
  hAddr : Addr
  hWdata : Word
  adcDone : Bool
  adcData : Sample
  /-- `eos_in`, read by no rule (R239). -/
  eosIn : Bool
deriving DecidableEq, Repr

/-- The sample memory `buf` (R20): the entries pushed since the last reset, as (index, sample) pairs.  An index that is not listed
holds an unspecified value (R145, U6; log 7). -/
abbrev Memory := List (Nat × Sample)

/-- The canonical form of the sample memory: indices strictly rising.  No pair can equal what an unlisted index reads as, which is
no known value (log 17). -/
abbrev Memory.wf (m : Memory) : Prop := m.Pairwise (fun x y => x.1 < y.1)

/-- The whole state of the model. -/
structure State where
  /-- The parameter record `P` (R5), constant: no operation writes it (log 4). -/
  params : Params
  /-- R12. -/
  highTicks : Word
  /-- R13. -/
  lowTicks : Word
  /-- R14. -/
  trigHighClocks : Word
  /-- R15. -/
  cycleLimitClocks : Word
  /-- R16. -/
  clockCount : Word
  /-- R17. -/
  clockPhase : Phase
  /-- R18. -/
  sampleReadyFlag : Bool
  /-- R19. -/
  readThresholdClock : Threshold
  /-- R20. -/
  buf : Memory
  /-- R21. -/
  cursor : Cursor
  /-- R22. -/
  armed : Bool
  /-- R23. -/
  tickCount : Word
  /-- R24. -/
  tickCompare : Word
  /-- R25. -/
  state : CycleState
  /-- R26. -/
  adcPending : Bool
  /-- R27. -/
  overrunFlag : Bool
  /-- R28. -/
  timeoutFlag : Bool
  /-- R29. -/
  capErrFlag : Bool
  /-- R30. -/
  cfgErrFlag : Bool
  /-- `clk_out` (R31). -/
  clkOut : Bool
  /-- `trig_out` (R32). -/
  trigOut : Bool
  /-- `adc_start` (R33). -/
  adcStart : Bool
  /-- The answer on `h_rdata`, `h_err` at the latest edge; none where no transaction was presented (R90, R207; log 5). -/
  resp : Option Response
  /-- The input samples placed for the coming edges, the next edge's first (R38; log 2). -/
  inputs : List PortSample
  /-- How many edges the model has made; it only indexes the free input values (log 2). -/
  edge : Nat
  /-- How many reset edges the model has made; it only indexes the free buffer contents (U6; log 7). -/
  bufEpoch : Nat
deriving DecidableEq, Repr

/-- The state after a reset edge, every element at the value of R39; no input placed.  The model's own counters start at 0 (log 2,
log 7). -/
def State.reset : State where
  params := Config.params
  highTicks := 0
  lowTicks := 0
  trigHighClocks := 0
  cycleLimitClocks := 0xFFFF
  clockCount := 0
  clockPhase := .low
  sampleReadyFlag := false
  readThresholdClock := 0
  buf := []
  cursor := 0
  armed := false
  tickCount := 0
  tickCompare := 0
  state := .idle
  adcPending := false
  overrunFlag := false
  timeoutFlag := false
  capErrFlag := false
  cfgErrFlag := false
  clkOut := true
  trigOut := false
  adcStart := false
  resp := none
  inputs := []
  edge := 0
  bufEpoch := 0

/-- The faults of the machine: none.  The spec has no trap, and treats nothing as a fault (spec/93_implementation_defined.md, last
line; log 15).  A bus refusal is an answer `(0, err = 1)` and an error is a sticky flag, both in a next state. -/
inductive Fault where
deriving DecidableEq, Repr

/-- The refusals of the model. -/
inductive Refusal where
  /-- Raised by an arm of `exec` for an instruction that has no meaning in the model yet; safe.  No arm raises it. -/
  | notModelled (mnemonic : String)
deriving DecidableEq, Repr

end Sys2Proof.Machine
end

