-- ==== Sys2Proof/Machine/Flags.lean ====
section
/-! DEFINITION. Derived values of spec/10_state.md section 9 and the codes of spec/30_encoding.md section 4: `Busy`, `Result`, the
numeric codes, the `STATUS` word. -/

namespace Sys2Proof.Machine

/-- `Busy(st)` (R34). -/
def busy : CycleState → Bool
  | .priming | .integrating | .reading => true
  | .idle | .complete => false

/-- The 3-bit code of `state` (R75). -/
def stateCode : CycleState → BitVec 3
  | .idle => 0
  | .priming => 1
  | .integrating => 2
  | .reading => 3
  | .complete => 4

/-- The bit of `clockPhase`, equal to the level `clk_out` has during that phase (R76). -/
def phaseBit : Phase → Bool
  | .low => false
  | .high => true

/-- `Result()`: the outcome code, first match wins (R35, R77, R231). -/
def resultCode (s : State) : BitVec 3 :=
  if s.capErrFlag then 4
  else if s.cfgErrFlag then 1
  else if s.timeoutFlag then 3
  else if s.overrunFlag then 2
  else 0

/-- The word of `STATUS` (R66, R184). -/
def statusWord (s : State) : Word :=
  resultCode s ++ BitVec.ofBool s.adcPending ++ BitVec.ofBool s.cfgErrFlag ++ BitVec.ofBool s.capErrFlag ++
    BitVec.ofBool s.timeoutFlag ++ BitVec.ofBool s.overrunFlag ++ BitVec.ofBool s.trigOut ++ BitVec.ofBool s.clkOut ++
    BitVec.ofBool (phaseBit s.clockPhase) ++ BitVec.ofBool s.sampleReadyFlag ++ BitVec.ofBool (busy s.state) ++
    stateCode s.state

end Sys2Proof.Machine
end

