-- ==== Sys2Proof/Machine/Ops.lean ====
section
/-! DEFINITION. The named operations the meanings share: answering a transaction, recording an error and clearing the record
(the block's "taking an exception" and its return, spec/60_exceptions.md R220, R233, R234), reading and writing the sample memory. -/

namespace Sys2Proof.Machine

/-- The stored sample at index `i`, if one was pushed since the last reset. -/
def Memory.read : Memory → Nat → Option Sample
  | [], _ => none
  | (a, v) :: m, i => if a = i then some v else Memory.read m i

/-- Storing `v` at index `i`, in canonical form. -/
def Memory.write : Memory → Nat → Sample → Memory
  | [], i, v => [(i, v)]
  | (a, w) :: m, i, v =>
    if i < a then (i, v) :: (a, w) :: m
    else if i = a then (i, v) :: m
    else (a, w) :: Memory.write m i v

/-- The low `SAMPLE_BITS` bits of a value on the 10-bit port: `v[SAMPLE_BITS-1:0]` (R141; log 9). -/
def truncateSample (sampleBits : Nat) (v : Sample) : Sample := BitVec.ofNat 10 (v.toNat % 2 ^ sampleBits)

/-- `buf[i]` (R20): the stored sample, or the free value an entry holds that nothing pushed since the last reset (U6; log 7). -/
def bufEntry (s : State) (i : Nat) : Sample :=
  (s.buf.read i).getD (truncateSample s.params.sampleBits (Config.freeEntry s.bufEpoch i))

/-- Driving the response ports: `(rdata, err)` is the answer of this edge (R60, R63). -/
def respond (rdata : Word) (err : Bool) (s : State) : State := { s with resp := some ⟨rdata, err⟩ }

/-- A refused transaction: `(0x0000, err = 1)` and no other change (R63, R225). -/
def refuse (s : State) : State := respond 0 true s

/-- A write that is carried out when the block is not busy, answering `(0, 0)`, and refused when it is (R180, R181, R198). -/
def hostWrite (f : State → State) (s : State) : State := if busy s.state then refuse s else respond 0 false (f s)

/-- `raise <Error>`: set the sticky flag of the error and nothing else (R220, R8). -/
def raiseError : ErrorKind → State → State
  | .configurationError, s => { s with cfgErrFlag := true }
  | .timingOverrunError, s => { s with overrunFlag := true }
  | .acquisitionTimeout, s => { s with timeoutFlag := true }
  | .capacityExceeded, s => { s with capErrFlag := true }

/-- Clearing the four sticky flags, which only an accepted START command does (R234, R151).  There is no other return from an
error. -/
def clearErrors (s : State) : State :=
  { s with overrunFlag := false, timeoutFlag := false, capErrFlag := false, cfgErrFlag := false }

end Sys2Proof.Machine
end

