-- ==== Sys2Proof/Machine/Operands.lean ====
section
/-! DEFINITION. What a transaction's `ADDR` names: the registers of the register window (spec/30_encoding.md R64) and the buffer
window (R74), and the output ports (spec/10_state.md R11). -/

namespace Sys2Proof.Machine

/-- The 15 registers of the register window, in address order (R64). -/
inductive Reg where
  | id
  | ctrl
  | status
  | highTicks
  | lowTicks
  | trigHighClocks
  | cycleLimitClocks
  | clockCount
  | readThresholdLo
  | readThresholdHi
  | cursor
  | tickCount
  | tickCompare
  | pixelCount
  | pipelineLatency
deriving DecidableEq, Repr

/-- `RegValue(s, reg)`: the content column of R64. -/
def regValue (s : State) : Reg → Word
  | .id => 0x9227
  | .ctrl => 0
  | .status => statusWord s
  | .highTicks => s.highTicks
  | .lowTicks => s.lowTicks
  | .trigHighClocks => s.trigHighClocks
  | .cycleLimitClocks => s.cycleLimitClocks
  | .clockCount => s.clockCount
  | .readThresholdLo => s.readThresholdClock.extractLsb' 0 16
  | .readThresholdHi => (s.readThresholdClock.extractLsb' 16 1).setWidth 16
  | .cursor => s.cursor.setWidth 16
  | .tickCount => s.tickCount
  | .tickCompare => s.tickCompare
  | .pixelCount => BitVec.ofNat 16 s.params.pixelCount
  | .pipelineLatency => BitVec.ofNat 16 s.params.pipelineLatencyClocks

/-- The word of buffer address `0x200 + i`: `zext_16(buf[i])` (R74). -/
def bufWord (s : State) (i : BufIndex) : Word := (bufEntry s i.toNat).setWidth 16

/-- Serving a register read: the value of the register in the pre-edge state, `err = 0` (R180, R47). -/
def readReg (r : Reg) (s : State) : State := respond (regValue s r) false s

/-! Output ports that are not state elements of their own (R11). -/

/-- Port `busy`. -/
def busyPort (s : State) : Bool := busy s.state
/-- Port `adc_chan`: constantly `VIDEO_CHANNEL`. -/
def adcChan (s : State) : BitVec 4 := s.params.videoChannel
/-- Port `h_rdata` at the latest edge: 0 where no transaction was presented (R263; log 5). -/
def hRdata (s : State) : Word := (s.resp.map Response.rdata).getD 0
/-- Port `h_err` at the latest edge: 0 where no transaction was presented (R263; log 5). -/
def hErr (s : State) : Bool := (s.resp.map Response.err).getD false

end Sys2Proof.Machine
end

