-- ==== Sys2Proof/Machine/HostReads.lean ====
section
/-! DEFINITION. The meanings of the host reads (spec/46_host_interface.md R182 to R197).  A read is served in every state, busy or
not, from the pre-edge state, and changes nothing but the response ports (R47, R180). -/

namespace Sys2Proof.Machine

/-- RD_ID (R182). -/
def execRdId (s : State) : Host.Outcome State Fault Refusal := .next (readReg .id s)
/-- RD_CTRL (R183). -/
def execRdCtrl (s : State) : Host.Outcome State Fault Refusal := .next (readReg .ctrl s)
/-- RD_STATUS (R184). -/
def execRdStatus (s : State) : Host.Outcome State Fault Refusal := .next (readReg .status s)
/-- RD_HIGH_TICKS (R185). -/
def execRdHighTicks (s : State) : Host.Outcome State Fault Refusal := .next (readReg .highTicks s)
/-- RD_LOW_TICKS (R186). -/
def execRdLowTicks (s : State) : Host.Outcome State Fault Refusal := .next (readReg .lowTicks s)
/-- RD_TRIG_HIGH_CLOCKS (R187). -/
def execRdTrigHighClocks (s : State) : Host.Outcome State Fault Refusal := .next (readReg .trigHighClocks s)
/-- RD_CYCLE_LIMIT_CLOCKS (R188). -/
def execRdCycleLimitClocks (s : State) : Host.Outcome State Fault Refusal := .next (readReg .cycleLimitClocks s)
/-- RD_CLOCK_COUNT (R189). -/
def execRdClockCount (s : State) : Host.Outcome State Fault Refusal := .next (readReg .clockCount s)
/-- RD_READ_THRESHOLD_LO (R190). -/
def execRdReadThresholdLo (s : State) : Host.Outcome State Fault Refusal := .next (readReg .readThresholdLo s)
/-- RD_READ_THRESHOLD_HI (R191). -/
def execRdReadThresholdHi (s : State) : Host.Outcome State Fault Refusal := .next (readReg .readThresholdHi s)
/-- RD_CURSOR (R192). -/
def execRdCursor (s : State) : Host.Outcome State Fault Refusal := .next (readReg .cursor s)
/-- RD_TICK_COUNT (R193). -/
def execRdTickCount (s : State) : Host.Outcome State Fault Refusal := .next (readReg .tickCount s)
/-- RD_TICK_COMPARE (R194). -/
def execRdTickCompare (s : State) : Host.Outcome State Fault Refusal := .next (readReg .tickCompare s)
/-- RD_PIXEL_COUNT (R195). -/
def execRdPixelCount (s : State) : Host.Outcome State Fault Refusal := .next (readReg .pixelCount s)
/-- RD_PIPELINE_LATENCY (R196). -/
def execRdPipelineLatency (s : State) : Host.Outcome State Fault Refusal := .next (readReg .pipelineLatency s)
/-- RD_BUF (R197).  An index `>= PIXEL_COUNT`, which the decoder refuses as ILLEGAL, is refused here too (log 8). -/
def execRdBuf (i : BufIndex) (s : State) : Host.Outcome State Fault Refusal :=
  .next (if i.toNat < s.params.pixelCount then respond (bufWord s i) false s else refuse s)

end Sys2Proof.Machine
end

