-- ==== Sys2Proof/Machine/Buffer.lean ====
section
/-! DEFINITION. The Acquisition Buffer: `BufReset`, `Push`, `IsFull` (spec/44_buffer.md). -/

namespace Sys2Proof.Machine

/-- `BufReset` (R140): the cursor only. -/
def bufReset (s : State) : State := { s with cursor := 0 }

/-- `IsFull` (R142). -/
def isFull (s : State) : Bool := decide (s.cursor.toNat = s.params.pixelCount)

/-- `Push` (R141). -/
def push (v : Sample) (s : State) : State :=
  if isFull s then raiseError .capacityExceeded s
  else { s with buf := s.buf.write s.cursor.toNat (truncateSample s.params.sampleBits v), cursor := s.cursor + 1 }

end Sys2Proof.Machine
end

