-- ==== Sys2Proof/Machine/TickSource.lean ====
section
/-! DEFINITION. The Timer Tick Source: ARM, DISARM, REARM, TICK_ADVANCE (spec/41_tick_source.md). -/

namespace Sys2Proof.Machine

/-- ARM (R100). -/
def arm (interval : Word) (s : State) : State := { s with armed := true, tickCount := 0, tickCompare := interval }

/-- DISARM (R101): the counter and the compare value keep their values (D30). -/
def disarm (s : State) : State := { s with armed := false }

/-- TICK_ADVANCE (R102). -/
def tickAdvance (s : State) : State := { s with tickCount := s.tickCount + 1 }

/-- REARM, the last step of every firing (R104). -/
def rearm (interval : Word) (s : State) : State := { s with tickCount := 0, tickCompare := interval }

/-- The compare match of R103: `tickCount + 1 == tickCompare`, compared as numbers (R94). -/
def compareMatch (s : State) : Bool := decide (s.tickCount.toNat + 1 = s.tickCompare.toNat)

end Sys2Proof.Machine
end

