-- ==== Sys2Proof/Machine/Orchestrator.lean ====
section
/-! DEFINITION. The Cycle Orchestrator: `StartCmd`, `ConfigInvalid`, the READER's operations, `Terminate`
(spec/45_orchestrator.md). -/

namespace Sys2Proof.Machine

/-- A half-period outside `[HALF_TICKS_MIN, HALF_TICKS_MAX]` (R152). -/
def halfTicksInvalid (p : Params) (x : Word) : Bool :=
  decide (x.toNat < p.halfTicksMin) || decide (p.halfTicksMax < x.toNat)

/-- `ConfigInvalid` (R152). -/
def configInvalid (s : State) : Bool :=
  decide (s.cycleLimitClocks.toNat ≤ s.trigHighClocks.toNat) || halfTicksInvalid s.params s.highTicks ||
    halfTicksInvalid s.params s.lowTicks

/-- `zext_17(trigHighClocks) + PIPELINE_LATENCY_CLOCKS`, 17 bits (R151, R94). -/
def thresholdOf (s : State) : Threshold :=
  s.trigHighClocks.setWidth 17 + BitVec.ofNat 17 s.params.pipelineLatencyClocks

/-- The part of `StartCmd` that begins a cycle: CycleState, buffer, reader, lines, timer, state (R151). -/
def beginCycle (s : State) : State :=
  let w := bufReset { s with
    clockCount := 0
    clockPhase := .low
    sampleReadyFlag := false
    readThresholdClock := thresholdOf s }
  { arm w.lowTicks { w with adcPending := false, adcStart := false, clkOut := true, trigOut := false } with
    state := .priming }

/-- `StartCmd` (R151). -/
def startCmd (s : State) : State :=
  let w := clearErrors s
  if configInvalid w then { raiseError .configurationError w with state := .idle } else beginCycle w

/-- `Terminate(st)` (R158). -/
def terminate (st : CycleState) (s : State) : State :=
  { disarm s with clkOut := true, trigOut := false, adcPending := false, adcStart := false, state := st }

/-- RD_CONSUME (R155). -/
def rdConsume (s : State) : State := { s with sampleReadyFlag := false, adcPending := true, adcStart := true }

/-- RD_PUSH, with CYCLE_COMPLETE when the push fills the buffer (R156, R159). -/
def rdPush (v : Sample) (s : State) : State :=
  let w := push v { s with adcStart := false, adcPending := false }
  if isFull w then terminate .complete w else w

/-- RD_WAIT (R157). -/
def rdWait (s : State) : State := { s with adcStart := false }

/-- CYCLE_TIMEOUT (R160). -/
def cycleTimeout (s : State) : State := terminate .idle s

/-- `ReaderPhase`, the READER agent's turn at a busy edge, first match wins (R154).  It runs first in the edge, so the working copy
still equals the pre-edge state in everything it reads. -/
def readerPhase (inp : PortSample) (s : State) : State :=
  if s.timeoutFlag then cycleTimeout s
  else if s.adcPending && inp.adcDone then rdPush inp.adcData s
  else if !s.adcPending && s.sampleReadyFlag then rdConsume s
  else rdWait s

end Sys2Proof.Machine
end

