-- ==== Sys2Proof/Machine/HostWrites.lean ====
section
/-! DEFINITION. The meanings of the host writes (spec/46_host_interface.md R198 to R205).  A write presented while busy is refused,
whatever its address (R180). -/

namespace Sys2Proof.Machine

/-- WR_HIGH_TICKS (R198). -/
def execWrHighTicks (v : Word) (s : State) : Host.Outcome State Fault Refusal :=
  .next (hostWrite (fun w => { w with highTicks := v }) s)
/-- WR_LOW_TICKS (R199). -/
def execWrLowTicks (v : Word) (s : State) : Host.Outcome State Fault Refusal :=
  .next (hostWrite (fun w => { w with lowTicks := v }) s)
/-- WR_TRIG_HIGH_CLOCKS (R200). -/
def execWrTrigHighClocks (v : Word) (s : State) : Host.Outcome State Fault Refusal :=
  .next (hostWrite (fun w => { w with trigHighClocks := v }) s)
/-- WR_CYCLE_LIMIT_CLOCKS (R201). -/
def execWrCycleLimitClocks (v : Word) (s : State) : Host.Outcome State Fault Refusal :=
  .next (hostWrite (fun w => { w with cycleLimitClocks := v }) s)
/-- START (R202). -/
def execStart (s : State) : Host.Outcome State Fault Refusal := .next (hostWrite startCmd s)
/-- WR_CTRL_NOP (R203). -/
def execWrCtrlNop (s : State) : Host.Outcome State Fault Refusal := .next (hostWrite id s)
/-- WR_RO to `ID` (R204). -/
def execWrRoId (s : State) : Host.Outcome State Fault Refusal := .next (refuse s)
/-- WR_RO to `STATUS` (R204). -/
def execWrRoStatus (s : State) : Host.Outcome State Fault Refusal := .next (refuse s)
/-- WR_RO to `CLOCK_COUNT` (R204). -/
def execWrRoClockCount (s : State) : Host.Outcome State Fault Refusal := .next (refuse s)
/-- WR_RO to `READ_THRESHOLD_LO` (R204). -/
def execWrRoReadThresholdLo (s : State) : Host.Outcome State Fault Refusal := .next (refuse s)
/-- WR_RO to `READ_THRESHOLD_HI` (R204). -/
def execWrRoReadThresholdHi (s : State) : Host.Outcome State Fault Refusal := .next (refuse s)
/-- WR_RO to `CURSOR` (R204). -/
def execWrRoCursor (s : State) : Host.Outcome State Fault Refusal := .next (refuse s)
/-- WR_RO to `TICK_COUNT` (R204). -/
def execWrRoTickCount (s : State) : Host.Outcome State Fault Refusal := .next (refuse s)
/-- WR_RO to `TICK_COMPARE` (R204). -/
def execWrRoTickCompare (s : State) : Host.Outcome State Fault Refusal := .next (refuse s)
/-- WR_RO to `PIXEL_COUNT` (R204). -/
def execWrRoPixelCount (s : State) : Host.Outcome State Fault Refusal := .next (refuse s)
/-- WR_RO to `PIPELINE_LATENCY` (R204). -/
def execWrRoPipelineLatency (s : State) : Host.Outcome State Fault Refusal := .next (refuse s)
/-- WR_BUF (R205). -/
def execWrBuf (s : State) : Host.Outcome State Fault Refusal := .next (refuse s)

end Sys2Proof.Machine
end

