-- ==== Sys2Proof/Machine/Dispatch.lean ====
section
/-! DEFINITION. The HOST agent's turn for each instruction: its answer and, when the block is not busy, its write
(spec/46_host_interface.md R180, R181). -/

namespace Sys2Proof.Machine

/-- The meaning of each host transaction, one arm per row of the opcode table. -/
def exec (i : Instr) (s : State) : Host.Outcome State Fault Refusal :=
  match i with
  | .rdId => Sys2Proof.Machine.execRdId s
  | .rdCtrl => Sys2Proof.Machine.execRdCtrl s
  | .rdStatus => Sys2Proof.Machine.execRdStatus s
  | .rdHighTicks => Sys2Proof.Machine.execRdHighTicks s
  | .rdLowTicks => Sys2Proof.Machine.execRdLowTicks s
  | .rdTrigHighClocks => Sys2Proof.Machine.execRdTrigHighClocks s
  | .rdCycleLimitClocks => Sys2Proof.Machine.execRdCycleLimitClocks s
  | .rdClockCount => Sys2Proof.Machine.execRdClockCount s
  | .rdReadThresholdLo => Sys2Proof.Machine.execRdReadThresholdLo s
  | .rdReadThresholdHi => Sys2Proof.Machine.execRdReadThresholdHi s
  | .rdCursor => Sys2Proof.Machine.execRdCursor s
  | .rdTickCount => Sys2Proof.Machine.execRdTickCount s
  | .rdTickCompare => Sys2Proof.Machine.execRdTickCompare s
  | .rdPixelCount => Sys2Proof.Machine.execRdPixelCount s
  | .rdPipelineLatency => Sys2Proof.Machine.execRdPipelineLatency s
  | .rdBuf idx => Sys2Proof.Machine.execRdBuf idx s
  | .wrHighTicks v => Sys2Proof.Machine.execWrHighTicks v s
  | .wrLowTicks v => Sys2Proof.Machine.execWrLowTicks v s
  | .wrTrigHighClocks v => Sys2Proof.Machine.execWrTrigHighClocks v s
  | .wrCycleLimitClocks v => Sys2Proof.Machine.execWrCycleLimitClocks v s
  | .start => Sys2Proof.Machine.execStart s
  | .wrCtrlNop => Sys2Proof.Machine.execWrCtrlNop s
  | .wrRoId _ => Sys2Proof.Machine.execWrRoId s
  | .wrRoStatus _ => Sys2Proof.Machine.execWrRoStatus s
  | .wrRoClockCount _ => Sys2Proof.Machine.execWrRoClockCount s
  | .wrRoReadThresholdLo _ => Sys2Proof.Machine.execWrRoReadThresholdLo s
  | .wrRoReadThresholdHi _ => Sys2Proof.Machine.execWrRoReadThresholdHi s
  | .wrRoCursor _ => Sys2Proof.Machine.execWrRoCursor s
  | .wrRoTickCount _ => Sys2Proof.Machine.execWrRoTickCount s
  | .wrRoTickCompare _ => Sys2Proof.Machine.execWrRoTickCompare s
  | .wrRoPixelCount _ => Sys2Proof.Machine.execWrRoPixelCount s
  | .wrRoPipelineLatency _ => Sys2Proof.Machine.execWrRoPipelineLatency s
  | .wrBuf _ _ => Sys2Proof.Machine.execWrBuf s

end Sys2Proof.Machine
end

