-- ==== Sys2Proof/WellFormed.lean ====
section
/-! DEFINITION. Which instruction terms stand for an operation of the opcode map: a buffer index must name an entry
(spec/30_encoding.md R78).  All other operands are legal at every value (R62, R67). -/

namespace Sys2Proof

/-- `i` stands for an operation of a block whose `PIXEL_COUNT` is `pixelCount` (R78: index `>= PIXEL_COUNT` is ILLEGAL). -/
def Instr.wellFormed (pixelCount : Nat) : Instr → Bool
  | .rdBuf i | .wrBuf i _ => decide (i.toNat < pixelCount)
  | .rdId | .rdCtrl | .rdStatus | .rdHighTicks | .rdLowTicks | .rdTrigHighClocks | .rdCycleLimitClocks | .rdClockCount
  | .rdReadThresholdLo | .rdReadThresholdHi | .rdCursor | .rdTickCount | .rdTickCompare | .rdPixelCount
  | .rdPipelineLatency | .wrHighTicks _ | .wrLowTicks _ | .wrTrigHighClocks _ | .wrCycleLimitClocks _ | .start
  | .wrCtrlNop | .wrRoId _ | .wrRoStatus _ | .wrRoClockCount _ | .wrRoReadThresholdLo _ | .wrRoReadThresholdHi _
  | .wrRoCursor _ | .wrRoTickCount _ | .wrRoTickCompare _ | .wrRoPixelCount _ | .wrRoPipelineLatency _ => true

end Sys2Proof
end

