-- ==== Sys2Proof/Decode.lean ====
section
/-! DEFINITION. Decoding of command words (spec/30_encoding.md R61, R62, R78, R79), total, rejecting by name; the encoder on
canonical words (R80); the opcode map's match and mask values. -/

namespace Sys2Proof

/-- Why a command word is ILLEGAL (R206). -/
inductive DecodeError where
  /-- Bits 30:26 are not zero. -/
  | reservedBits
  /-- `ADDR` is 0x00F or 0x010 .. 0x1FF. -/
  | unmappedAddress
  /-- A buffer index `>= PIXEL_COUNT`. -/
  | bufferIndex
deriving DecidableEq, Repr

/-- Field `W`, bit 31: 1 is a write (R61). -/
def CmdWord.isWrite (c : CmdWord) : Bool := c.getLsbD 31
/-- Field `RSV`, bits 30:26 (R61). -/
def CmdWord.rsv (c : CmdWord) : BitVec 5 := c.extractLsb' 26 5
/-- Field `ADDR`, bits 25:16 (R61). -/
def CmdWord.addr (c : CmdWord) : Addr := c.extractLsb' 16 10
/-- Field `DATA`, bits 15:0 (R61). -/
def CmdWord.data (c : CmdWord) : Word := c.extractLsb' 0 16
/-- The command word of four fields (R61). -/
def CmdWord.ofFields (w : Bool) (rsv : BitVec 5) (a : Addr) (d : Word) : CmdWord :=
  BitVec.ofBool w ++ rsv ++ a ++ d

/-- `ADDR[9]`: the buffer window (R61). -/
def inBufferWindow (a : Addr) : Bool := a.getLsbD 9
/-- `ADDR[8:0]`: the buffer index (R62). -/
def bufferIndex (a : Addr) : BufIndex := a.extractLsb' 0 9

/-- Decoding a read of the register half of the address space (R78, R64). -/
def decodeRead (a : Addr) : Except DecodeError Instr :=
  match a.toNat with
  | 0x000 => .ok .rdId
  | 0x001 => .ok .rdCtrl
  | 0x002 => .ok .rdStatus
  | 0x003 => .ok .rdHighTicks
  | 0x004 => .ok .rdLowTicks
  | 0x005 => .ok .rdTrigHighClocks
  | 0x006 => .ok .rdCycleLimitClocks
  | 0x007 => .ok .rdClockCount
  | 0x008 => .ok .rdReadThresholdLo
  | 0x009 => .ok .rdReadThresholdHi
  | 0x00A => .ok .rdCursor
  | 0x00B => .ok .rdTickCount
  | 0x00C => .ok .rdTickCompare
  | 0x00D => .ok .rdPixelCount
  | 0x00E => .ok .rdPipelineLatency
  | _ => .error .unmappedAddress

/-- Decoding a write of the register half of the address space (R78, R64).  `START` looks only at `DATA[0]` (R62). -/
def decodeWrite (a : Addr) (d : Word) : Except DecodeError Instr :=
  match a.toNat with
  | 0x000 => .ok (.wrRoId d)
  | 0x001 => if d.getLsbD 0 then .ok .start else .ok .wrCtrlNop
  | 0x002 => .ok (.wrRoStatus d)
  | 0x003 => .ok (.wrHighTicks d)
  | 0x004 => .ok (.wrLowTicks d)
  | 0x005 => .ok (.wrTrigHighClocks d)
  | 0x006 => .ok (.wrCycleLimitClocks d)
  | 0x007 => .ok (.wrRoClockCount d)
  | 0x008 => .ok (.wrRoReadThresholdLo d)
  | 0x009 => .ok (.wrRoReadThresholdHi d)
  | 0x00A => .ok (.wrRoCursor d)
  | 0x00B => .ok (.wrRoTickCount d)
  | 0x00C => .ok (.wrRoTickCompare d)
  | 0x00D => .ok (.wrRoPixelCount d)
  | 0x00E => .ok (.wrRoPipelineLatency d)
  | _ => .error .unmappedAddress

/-- Decoding a command word in a block of `pixelCount` pixels, first match wins (R78). -/
def decodeWord (pixelCount : Nat) (c : CmdWord) : Except DecodeError Instr :=
  if CmdWord.rsv c ≠ 0 then .error .reservedBits
  else if inBufferWindow (CmdWord.addr c) then
    if pixelCount ≤ (bufferIndex (CmdWord.addr c)).toNat then .error .bufferIndex
    else if CmdWord.isWrite c then .ok (.wrBuf (bufferIndex (CmdWord.addr c)) (CmdWord.data c))
    else .ok (.rdBuf (bufferIndex (CmdWord.addr c)))
  else if CmdWord.isWrite c then decodeWrite (CmdWord.addr c) (CmdWord.data c)
  else decodeRead (CmdWord.addr c)

/-- What the decoder of this hardware reads from an instruction of `nbits` bits `w`.  Every instruction is one 32-bit word, and
bits above `nbits` are 0. -/
def decodeTableWord (nbits w : Nat) : Option Instr :=
  (decodeWord Config.params.pixelCount (BitVec.ofNat 32 (w % 2 ^ nbits))).toOption

/-- The canonical word of a read at address `a`: `a << 16`, `DATA` zero (R80). -/
def readWord (a : Addr) : CmdWord := CmdWord.ofFields false 0 a 0
/-- The word of a write of `d` at address `a`: `0x80000000 | a << 16 | d` (R80). -/
def writeWord (a : Addr) (d : Word) : CmdWord := CmdWord.ofFields true 0 a d
/-- The address `0x200 + i` of buffer entry `i` (R42). -/
def bufferAddr (i : BufIndex) : Addr := 1#1 ++ i

/-- The encoder: the canonical command word of an instruction (R80). -/
def encodeWord : Instr → CmdWord
  | .rdId => readWord 0x000
  | .rdCtrl => readWord 0x001
  | .rdStatus => readWord 0x002
  | .rdHighTicks => readWord 0x003
  | .rdLowTicks => readWord 0x004
  | .rdTrigHighClocks => readWord 0x005
  | .rdCycleLimitClocks => readWord 0x006
  | .rdClockCount => readWord 0x007
  | .rdReadThresholdLo => readWord 0x008
  | .rdReadThresholdHi => readWord 0x009
  | .rdCursor => readWord 0x00A
  | .rdTickCount => readWord 0x00B
  | .rdTickCompare => readWord 0x00C
  | .rdPixelCount => readWord 0x00D
  | .rdPipelineLatency => readWord 0x00E
  | .rdBuf i => readWord (bufferAddr i)
  | .wrHighTicks v => writeWord 0x003 v
  | .wrLowTicks v => writeWord 0x004 v
  | .wrTrigHighClocks v => writeWord 0x005 v
  | .wrCycleLimitClocks v => writeWord 0x006 v
  | .start => writeWord 0x001 1
  | .wrCtrlNop => writeWord 0x001 0
  | .wrRoId d => writeWord 0x000 d
  | .wrRoStatus d => writeWord 0x002 d
  | .wrRoClockCount d => writeWord 0x007 d
  | .wrRoReadThresholdLo d => writeWord 0x008 d
  | .wrRoReadThresholdHi d => writeWord 0x009 d
  | .wrRoCursor d => writeWord 0x00A d
  | .wrRoTickCount d => writeWord 0x00B d
  | .wrRoTickCompare d => writeWord 0x00C d
  | .wrRoPixelCount d => writeWord 0x00D d
  | .wrRoPipelineLatency d => writeWord 0x00E d
  | .wrBuf i d => writeWord (bufferAddr i) d

/-- The encoder of the model: the words of an instruction, which is always one command word (R61). -/
def encode (i : Instr) : List CmdWord := [encodeWord i]

/-- The match and mask of an instruction's row of spec/opcode_table.json (R78). -/
def opcodeRow : Instr → CmdWord × CmdWord
  | .rdId => (0x00000000, 0xFFFF0000)
  | .rdCtrl => (0x00010000, 0xFFFF0000)
  | .rdStatus => (0x00020000, 0xFFFF0000)
  | .rdHighTicks => (0x00030000, 0xFFFF0000)
  | .rdLowTicks => (0x00040000, 0xFFFF0000)
  | .rdTrigHighClocks => (0x00050000, 0xFFFF0000)
  | .rdCycleLimitClocks => (0x00060000, 0xFFFF0000)
  | .rdClockCount => (0x00070000, 0xFFFF0000)
  | .rdReadThresholdLo => (0x00080000, 0xFFFF0000)
  | .rdReadThresholdHi => (0x00090000, 0xFFFF0000)
  | .rdCursor => (0x000A0000, 0xFFFF0000)
  | .rdTickCount => (0x000B0000, 0xFFFF0000)
  | .rdTickCompare => (0x000C0000, 0xFFFF0000)
  | .rdPixelCount => (0x000D0000, 0xFFFF0000)
  | .rdPipelineLatency => (0x000E0000, 0xFFFF0000)
  | .rdBuf _ => (0x02000000, 0xFE000000)
  | .wrHighTicks _ => (0x80030000, 0xFFFF0000)
  | .wrLowTicks _ => (0x80040000, 0xFFFF0000)
  | .wrTrigHighClocks _ => (0x80050000, 0xFFFF0000)
  | .wrCycleLimitClocks _ => (0x80060000, 0xFFFF0000)
  | .start => (0x80010001, 0xFFFF0001)
  | .wrCtrlNop => (0x80010000, 0xFFFF0001)
  | .wrRoId _ => (0x80000000, 0xFFFF0000)
  | .wrRoStatus _ => (0x80020000, 0xFFFF0000)
  | .wrRoClockCount _ => (0x80070000, 0xFFFF0000)
  | .wrRoReadThresholdLo _ => (0x80080000, 0xFFFF0000)
  | .wrRoReadThresholdHi _ => (0x80090000, 0xFFFF0000)
  | .wrRoCursor _ => (0x800A0000, 0xFFFF0000)
  | .wrRoTickCount _ => (0x800B0000, 0xFFFF0000)
  | .wrRoTickCompare _ => (0x800C0000, 0xFFFF0000)
  | .wrRoPixelCount _ => (0x800D0000, 0xFFFF0000)
  | .wrRoPipelineLatency _ => (0x800E0000, 0xFFFF0000)
  | .wrBuf _ _ => (0x82000000, 0xFE000000)

end Sys2Proof
end

