-- ==== Sys2Proof/Machine/Synchronizer.lean ====
section
/-! DEFINITION. The Sample Synchronizer: `SyncEval` (spec/43_synchronizer.md). -/

namespace Sys2Proof.Machine

/-- The comparison of R130 and R95: the 16-bit count, zero-extended, with the 17-bit threshold. -/
def thresholdReached (s : State) : Bool := decide (s.readThresholdClock.toNat ≤ s.clockCount.toNat)

/-- The transition INTEGRATING to READING (R130). -/
def enterReading (s : State) : State := if s.state = .integrating then { s with state := .reading } else s

/-- `SyncEval` (R130): set-only (spec/90_conflicts.md C9); a set that finds the flag set records a lost window. -/
def syncEval (s : State) : State :=
  if thresholdReached s then
    enterReading { (if s.sampleReadyFlag then raiseError .timingOverrunError s else s) with sampleReadyFlag := true }
  else s

end Sys2Proof.Machine
end

