-- ==== Sys2Proof/Machine/Waveform.lean ====
section
/-! DEFINITION. The Waveform State Machine: FIRE_RISE, FIRE_FALL, their dispatch and the TICK agent's turn
(spec/42_waveform.md, spec/41_tick_source.md R103). -/

namespace Sys2Proof.Machine

/-- The trigger line after step 1 of FIRE_RISE: both tests in the order written, the later assignment wins (R111). -/
def trigAfterRise (s : State) : Bool :=
  if s.clockCount = s.trigHighClocks then false else if s.clockCount = 0 then true else s.trigOut

/-- FIRE_RISE (R111). -/
def fireRise (s : State) : State :=
  rearm s.highTicks { s with trigOut := trigAfterRise s, clkOut := true, clockPhase := .high }

/-- Step 3 of FIRE_FALL: count the completed clock period and ask the synchronizer, or record AcquisitionTimeout (R112). -/
def completePeriod (s : State) : State :=
  if s.clockCount = s.cycleLimitClocks then raiseError .acquisitionTimeout s
  else syncEval { s with clockCount := s.clockCount + 1 }

/-- FIRE_FALL (R112). -/
def fireFall (s : State) : State :=
  let w := completePeriod { s with clkOut := false }
  rearm w.lowTicks { w with clockPhase := .low }

/-- The transition PRIMING to INTEGRATING, made by the first firing (R110). -/
def leavePriming (s : State) : State := if s.state = .priming then { s with state := .integrating } else s

/-- `Fire`, the dispatch of a firing (R110). -/
def fire (s : State) : State :=
  leavePriming (match s.clockPhase with
    | .low => fireRise s
    | .high => fireFall s)

/-- `TickPhase`, the TICK agent's turn at a busy edge (R103, R92). -/
def tickPhase (s : State) : State :=
  if s.armed then (if compareMatch s then fire s else tickAdvance s) else s

end Sys2Proof.Machine
end

