-- ==== Sys2Proof/Machine/Edge.lean ====
section
/-! DEFINITION. One clock edge (spec/40_clock_step.md R90 to R93): sampling the input ports, which transaction they present, the reset
edge, and what the other agents do at the edge a transaction is presented. -/

namespace Sys2Proof.Machine

/-- The input ports the environment drives at edge `n` where no sample was placed: all free (R96; log 2).  The ports carry no `RSV`
bits (R61), so they count as 0 (R180; log 6). -/
def freePorts (n : Nat) : PortSample where
  rst := Config.freeRst n
  hValid := Config.freeHValid n
  hWe := Config.freeHWe n
  hRsv := 0
  hAddr := Config.freeHAddr n
  hWdata := Config.freeHWdata n
  adcDone := Config.freeAdcDone n
  adcData := Config.freeAdcData n
  eosIn := Config.freeEosIn n

/-- The input ports as sampled `k` edges after the next one: the placed samples, then the free ones (R98; log 2). -/
def inputAt (s : State) (k : Nat) : PortSample := (s.inputs[k]?).getD (freePorts (s.edge + k))

/-- The input ports as sampled at the next edge. -/
def nextInput (s : State) : PortSample := inputAt s 0

/-- The command word of the presented transaction: `{h_we, RSV, h_addr, h_wdata}` (R61, R180). -/
def commandWord (inp : PortSample) : CmdWord := CmdWord.ofFields inp.hWe inp.hRsv inp.hAddr inp.hWdata

/-- The input sample with the transaction of command word `c` presented on it and no reset (R60). -/
def presentWord (c : CmdWord) (inp : PortSample) : PortSample :=
  { inp with
    rst := false
    hValid := true
    hWe := CmdWord.isWrite c
    hRsv := CmdWord.rsv c
    hAddr := CmdWord.addr c
    hWdata := CmdWord.data c }

/-- What the ports ask for at an edge: reset, no transaction (HOST_NONE), an ILLEGAL word, or an operation of the opcode map. -/
inductive Presented where
  | reset
  | hostNone
  | illegal (e : DecodeError)
  | op (i : Instr)
deriving DecidableEq, Repr

/-- Reading the ports: reset first (R91), then `h_valid`, then the decoder (R180, R78). -/
def presented (s : State) : Presented :=
  let inp := nextInput s
  if inp.rst then .reset
  else if inp.hValid then
    match decodeWord s.params.pixelCount (commandWord inp) with
    | .ok i => .op i
    | .error e => .illegal e
  else .hostNone

/-- The sample of this edge is used up (log 2). -/
def consumeInput (s : State) : State := { s with inputs := s.inputs.tail, edge := s.edge + 1 }

/-- `ResetState()` (R260, R39) and the answer to a transaction presented at the reset edge (R90).  The parameters stay, the buffer
contents are chosen anew (U6). -/
def resetEdge (s : State) : State :=
  { State.reset with
    params := s.params
    resp := if (nextInput s).hValid then some ⟨0, true⟩ else none
    inputs := s.inputs.tail
    edge := s.edge + 1
    bufEpoch := s.bufEpoch + 1 }

/-- HOST_NONE (R207): no response, no host effect. -/
def hostNone (s : State) : State := { s with resp := none }

/-- ILLEGAL (R206): refused in every state, whatever made the word illegal. -/
def hostIllegal (_e : DecodeError) (s : State) : State := refuse s

/-- The rest of the edge that began in state `s` and at which the HOST agent's turn gives `w`: at a busy edge READER, then TICK
(R90, R92); at any edge the input sample is used up.  At a busy edge the HOST's turn changes only the response, which neither
READER nor TICK reads or writes, so taking it first gives the same state as the spec's order (log 11). -/
def finishEdge (s w : State) : State :=
  consumeInput (if busy s.state then tickPhase (readerPhase (nextInput s) w) else w)

/-- Presenting the transaction of command word `c` at the next edge. -/
def placeWord (c : CmdWord) (s : State) : State :=
  { s with inputs := presentWord c (nextInput s) :: s.inputs.tail }

end Sys2Proof.Machine
end

