-- ==== Sys2Proof/Machine/Step.lean ====
section
/-! DEFINITION. The step of the machine: one rising edge of `clk` (spec/40_clock_step.md R90). -/

namespace Sys2Proof.Machine

/-- One clock edge (R90). -/
def step (s : State) : Host.Outcome State Fault Refusal :=
  match presented s with
  | .reset => .next (resetEdge s)
  | .hostNone => .next (finishEdge s (hostNone s))
  | .illegal e => .next (finishEdge s (hostIllegal e s))
  | .op i =>
    match exec i s with
    | .next w => .next (finishEdge s w)
    | .fault r => .fault r
    | .refused r => .refused r

/-- `s` with the transaction of the `nbits`-bit command word `w` presented at the next edge, so that the next step runs it
(log 3). -/
def State.withFetchWord (s : State) (nbits w : Nat) : State := placeWord (BitVec.ofNat 32 (w % 2 ^ nbits)) s

end Sys2Proof.Machine
end

