-- ==== Sys2Proof/Safety.lean ====
section
/-! DEFINITION. What a good state of the block is (spec/10_state.md R37, with what makes it inductive), and the terms the statements
about runs use. -/

namespace Sys2Proof.Machine

/-- The invariants of R37, `item n` being its item, with the facts the spec's other rules add so that every edge keeps them. -/
structure Inv (s : State) : Prop where
  /-- R6. -/
  params_legal : s.params.Legal
  /-- The sample memory is in canonical form (log 17). -/
  buf_wf : s.buf.wf
  /-- R20, R74: stored samples are `SAMPLE_BITS` wide and stand at indices of the buffer. -/
  buf_entries : ∀ x ∈ s.buf, x.1 < s.params.pixelCount ∧ x.2.toNat < 2 ^ s.params.sampleBits
  /-- R56, R145: every entry below the cursor was pushed. -/
  captured : ∀ i < s.cursor.toNat, (s.buf.read i).isSome = true
  /-- Item 1. -/
  armed_eq_busy : s.armed = busy s.state
  /-- Item 2. -/
  cursor_le : s.cursor.toNat ≤ s.params.pixelCount
  /-- R146: a busy block has room in the buffer. -/
  cursor_lt : busy s.state = true → s.cursor.toNat < s.params.pixelCount
  /-- Item 3. -/
  tick_lt : s.armed = true → s.tickCount.toNat < s.tickCompare.toNat
  /-- Item 3. -/
  tick_compare : s.armed = true → s.tickCompare = (match s.clockPhase with | .high => s.highTicks | .low => s.lowTicks)
  /-- R55, R151: the configuration of a running cycle is a valid one. -/
  config_valid : busy s.state = true → configInvalid s = false
  /-- Item 4. -/
  clk_eq_phase : busy s.state = true → s.state ≠ .priming → s.clkOut = phaseBit s.clockPhase
  /-- Item 5. -/
  priming : s.state = .priming →
    s.clockPhase = .low ∧ s.clockCount = 0 ∧ s.clkOut = true ∧ s.trigOut = false ∧ s.sampleReadyFlag = false ∧ s.cursor = 0
  /-- R150: before READING the reader finds nothing, and in PRIMING no timeout is pending (R163). -/
  before_reading : s.state = .priming ∨ s.state = .integrating →
    s.sampleReadyFlag = false ∧ s.adcPending = false ∧ s.cursor = 0
  /-- R163: PRIMING cannot time out. -/
  priming_no_timeout : s.state = .priming → s.timeoutFlag = false
  /-- Item 6. -/
  count_le_limit : busy s.state = true → s.clockCount.toNat ≤ s.cycleLimitClocks.toNat
  /-- Item 6. -/
  threshold : busy s.state = true →
    s.readThresholdClock.toNat = s.trigHighClocks.toNat + s.params.pipelineLatencyClocks
  /-- Item 7. -/
  ready_count : s.sampleReadyFlag = true → s.readThresholdClock.toNat ≤ s.clockCount.toNat
  /-- Item 8. -/
  complete_full : s.state = .complete → s.cursor.toNat = s.params.pixelCount
  /-- Item 9. -/
  rest : busy s.state = false →
    s.armed = false ∧ s.adcPending = false ∧ s.adcStart = false ∧ s.clkOut = true ∧ s.trigOut = false
  /-- R155, R161: `adc_start` is 1 only while the request it makes is outstanding. -/
  request_pending : s.adcStart = true → s.adcPending = true
  /-- Item 10. -/
  config_error : s.cfgErrFlag = true →
    s.state = .idle ∧ s.overrunFlag = false ∧ s.timeoutFlag = false ∧ s.capErrFlag = false
  /-- Item 11. -/
  no_capacity_error : s.capErrFlag = false

/-- The level `trig_out` has in a running cycle after its first firing: asserted until the FIRE_RISE at which `clockCount ==
trigHighClocks` (R114, R115). -/
def trigLevel (s : State) : Bool :=
  decide (s.clockCount.toNat < s.trigHighClocks.toNat ∨ (s.clockCount = s.trigHighClocks ∧ s.clockPhase = .low))

/-- `clock period` in timer units: `lowTicks + highTicks` (R266's `Pt`). -/
def period (s : State) : Nat := s.lowTicks.toNat + s.highTicks.toNat

/-- The state an accepted valid START leaves, as far as the cycle depends on it: PRIMING with the counters at their start values
(R151). -/
structure CycleStart (s : State) : Prop where
  inv : Inv s
  state : s.state = .priming
  tick_zero : s.tickCount = 0
  no_overrun : s.overrunFlag = false

/-- `k` edges from `s` lead to `t`. -/
def RunsTo (k : Nat) (s t : State) : Prop := Host.Core.run Sys2Proof.core k s = .next t

/-- The block is busy after each of the edges before edge `k` from `s`, `s` itself (after edge 0) included. -/
def BusyBefore (k : Nat) (s : State) : Prop := ∀ j < k, ∃ u, RunsTo j s u ∧ busy u.state = true

end Sys2Proof.Machine
end

