-- ==== Sys2Proof/Certificates/Slice0/Obligations.lean ====
section
/-! DEFINITION. The statements about S9227-TWG for the provers.  Each docstring names the rules of spec/ it formalises; where a
statement rests on a choice of the model the docstring names the log entry. -/

open Sys2Proof Sys2Proof.Machine

/-! ## The edge -/

/-- R90, R180, R181: an edge at which the ports present the word of an instruction runs that instruction's HOST turn, then, at a busy
edge only, READER and TICK in this order; then the input sample of the edge is used up (log 1, log 2, log 11). -/
def Obligations.StepRunsPresentedTransaction : Prop :=
  ∀ (s w : State) (i : Instr),
    (nextInput s).rst = false → (nextInput s).hValid = true →
    decodeWord s.params.pixelCount (commandWord (nextInput s)) = .ok i → i.wellFormed s.params.pixelCount = true →
    exec i s = .next w →
      step s = .next (finishEdge s w) ∧
      (busy s.state = false → finishEdge s w = { w with inputs := w.inputs.tail, edge := w.edge + 1 }) ∧
      (busy s.state = true → finishEdge s w = consumeInput (tickPhase (readerPhase (nextInput s) w)))

/-- R96: every edge has a next state, in every state and whatever the ports carry.  It uses up one input sample and keeps the
parameters (log 2, log 4). -/
def Obligations.EveryEdgeAnswers : Prop :=
  ∀ s : State, ∃ t, step s = .next t ∧ t.inputs = s.inputs.tail ∧ t.edge = s.edge + 1 ∧ t.params = s.params

/-- R207: an edge with `h_valid = 0` has no response and no host effect.  The ports `h_rdata` and `h_err` then show 0 (R263; log 5). -/
def Obligations.NoTransactionEdge : Prop :=
  ∀ s : State, (nextInput s).rst = false → (nextInput s).hValid = false →
    step s = .next (finishEdge s { s with resp := none }) ∧
    hRdata (finishEdge s { s with resp := none }) = 0 ∧ hErr (finishEdge s { s with resp := none }) = false

/-- R206, R43: exactly the words with `RSV != 0` or an unmapped `ADDR` are ILLEGAL, read or write, and at an edge that presents one
the answer is `(0, err = 1)` and nothing else of the edge is the host's. -/
def Obligations.IllegalWordsRefused : Prop :=
  ∀ s : State, (nextInput s).rst = false → (nextInput s).hValid = true →
    ((∃ e, decodeWord s.params.pixelCount (commandWord (nextInput s)) = .error e) ↔
      ((nextInput s).hRsv ≠ 0 ∨ (0x00F ≤ (nextInput s).hAddr.toNat ∧ (nextInput s).hAddr.toNat < 0x200) ∨
        0x200 + s.params.pixelCount ≤ (nextInput s).hAddr.toNat)) ∧
    (∀ e, decodeWord s.params.pixelCount (commandWord (nextInput s)) = .error e →
      step s = .next (finishEdge s { s with resp := some ⟨0, true⟩ }))

/-- R260, R91: at an edge with `rst = 1` no phase runs, a presented transaction is refused, and every element takes its reset value,
whatever the pre-edge state and the other ports.  (`buf` gets no value: see `ResetEdgeForgetsBuffer`.) -/
def Obligations.ResetEdgeState : Prop :=
  ∀ s : State, (nextInput s).rst = true →
    ∃ t, step s = .next t ∧
      t.highTicks = 0 ∧ t.lowTicks = 0 ∧ t.trigHighClocks = 0 ∧ t.cycleLimitClocks = 0xFFFF ∧
      t.clockCount = 0 ∧ t.clockPhase = .low ∧ t.sampleReadyFlag = false ∧ t.readThresholdClock = 0 ∧
      t.cursor = 0 ∧ t.armed = false ∧ t.tickCount = 0 ∧ t.tickCompare = 0 ∧ t.state = .idle ∧ t.adcPending = false ∧
      t.overrunFlag = false ∧ t.timeoutFlag = false ∧ t.capErrFlag = false ∧ t.cfgErrFlag = false ∧
      t.clkOut = true ∧ t.trigOut = false ∧ t.adcStart = false ∧ statusWord t = 0x0040 ∧
      ((nextInput s).hValid = true → t.resp = some ⟨0, true⟩)

/-- R262, U6, R263: a reset edge leaves every entry of `buf` a free value, chosen anew (the model's form of "unspecified", log 7),
keeps the parameters (log 4), uses up the input sample (log 2), and drives the ports R263 lists. -/
def Obligations.ResetEdgeForgetsBuffer : Prop :=
  ∀ s : State, (nextInput s).rst = true →
    ∃ t, step s = .next t ∧ t.buf = [] ∧ t.bufEpoch = s.bufEpoch + 1 ∧
      (∀ i, bufEntry t i = truncateSample s.params.sampleBits (Config.freeEntry (s.bufEpoch + 1) i)) ∧
      t.params = s.params ∧ t.inputs = s.inputs.tail ∧ t.edge = s.edge + 1 ∧
      busyPort t = false ∧ adcChan t = s.params.videoChannel ∧
      ((nextInput s).hValid = false → hRdata t = 0 ∧ hErr t = false)

/-! ## Host reads -/

/-- R182, R183, R195, R196: the registers that never change, with their command words. -/
def Obligations.ReadConstantRegisters : Prop :=
  encodeWord .rdId = 0x00000000 ∧ encodeWord .rdCtrl = 0x00010000 ∧ encodeWord .rdPixelCount = 0x000D0000 ∧
  encodeWord .rdPipelineLatency = 0x000E0000 ∧ Config.params.pixelCount = 0x0200 ∧
  Config.params.pipelineLatencyClocks = 0x000E ∧
  ∀ s : State,
    exec .rdId s = .next { s with resp := some ⟨0x9227, false⟩ } ∧
    exec .rdCtrl s = .next { s with resp := some ⟨0x0000, false⟩ } ∧
    exec .rdPixelCount s = .next { s with resp := some ⟨BitVec.ofNat 16 s.params.pixelCount, false⟩ } ∧
    exec .rdPipelineLatency s = .next { s with resp := some ⟨BitVec.ofNat 16 s.params.pipelineLatencyClocks, false⟩ }

/-- R184, R35 (with the fields of R66 and the codes of R75): RD_STATUS answers the word of the pre-edge state, field by field. -/
def Obligations.ReadStatusFields : Prop :=
  encodeWord .rdStatus = 0x00020000 ∧ statusWord State.reset = 0x0040 ∧
  ∀ s : State, ∃ d : Word, exec .rdStatus s = .next { s with resp := some ⟨d, false⟩ } ∧
    d.extractLsb' 0 3 = (match s.state with
      | .idle => 0 | .priming => 1 | .integrating => 2 | .reading => 3 | .complete => 4) ∧
    d.getLsbD 3 = decide (s.state = .priming ∨ s.state = .integrating ∨ s.state = .reading) ∧
    d.getLsbD 4 = s.sampleReadyFlag ∧ d.getLsbD 5 = decide (s.clockPhase = .high) ∧
    d.getLsbD 6 = s.clkOut ∧ d.getLsbD 7 = s.trigOut ∧ d.getLsbD 8 = s.overrunFlag ∧ d.getLsbD 9 = s.timeoutFlag ∧
    d.getLsbD 10 = s.capErrFlag ∧ d.getLsbD 11 = s.cfgErrFlag ∧ d.getLsbD 12 = s.adcPending ∧
    d.extractLsb' 13 3 = (if s.capErrFlag then 4 else if s.cfgErrFlag then 1 else if s.timeoutFlag then 3
      else if s.overrunFlag then 2 else 0)

/-- R185 to R188: the configuration registers read back as stored; `CYCLE_LIMIT_CLOCKS` is 0xFFFF after reset. -/
def Obligations.ReadConfigurationRegisters : Prop :=
  encodeWord .rdHighTicks = 0x00030000 ∧ encodeWord .rdLowTicks = 0x00040000 ∧ encodeWord .rdTrigHighClocks = 0x00050000 ∧
  encodeWord .rdCycleLimitClocks = 0x00060000 ∧ (∀ s, (resetEdge s).cycleLimitClocks = 0xFFFF) ∧
  ∀ s : State,
    exec .rdHighTicks s = .next { s with resp := some ⟨s.highTicks, false⟩ } ∧
    exec .rdLowTicks s = .next { s with resp := some ⟨s.lowTicks, false⟩ } ∧
    exec .rdTrigHighClocks s = .next { s with resp := some ⟨s.trigHighClocks, false⟩ } ∧
    exec .rdCycleLimitClocks s = .next { s with resp := some ⟨s.cycleLimitClocks, false⟩ }

/-- R193, R194 (and the values of R189, R192): the counters read as they stood before the edge. -/
def Obligations.ReadCounters : Prop :=
  encodeWord .rdClockCount = 0x00070000 ∧ encodeWord .rdCursor = 0x000A0000 ∧ encodeWord .rdTickCount = 0x000B0000 ∧
  encodeWord .rdTickCompare = 0x000C0000 ∧
  ∀ s : State,
    exec .rdClockCount s = .next { s with resp := some ⟨s.clockCount, false⟩ } ∧
    exec .rdCursor s = .next { s with resp := some ⟨s.cursor.setWidth 16, false⟩ } ∧
    exec .rdTickCount s = .next { s with resp := some ⟨s.tickCount, false⟩ } ∧
    exec .rdTickCompare s = .next { s with resp := some ⟨s.tickCompare, false⟩ }

/-- R69 (and the values of R190, R191): the threshold is read as two words, bits 15:0 and bit 16, which together give all of it. -/
def Obligations.ReadThresholdAsTwoWords : Prop :=
  encodeWord .rdReadThresholdLo = 0x00080000 ∧ encodeWord .rdReadThresholdHi = 0x00090000 ∧
  ∀ s : State, ∃ lo hi : Word,
    exec .rdReadThresholdLo s = .next { s with resp := some ⟨lo, false⟩ } ∧
    exec .rdReadThresholdHi s = .next { s with resp := some ⟨hi, false⟩ } ∧
    lo = s.readThresholdClock.setWidth 16 ∧ hi.getLsbD 0 = s.readThresholdClock.getLsbD 16 ∧
    (∀ b, 1 ≤ b → hi.getLsbD b = false) ∧ hi.toNat * 65536 + lo.toNat = s.readThresholdClock.toNat

/-- R197, R74: RD_BUF answers the zero-extended entry in every state; bits 15:SAMPLE_BITS are 0, also for an entry that was not pushed
since the last reset, which holds a free value (log 7); an index `>= PIXEL_COUNT` is ILLEGAL. -/
def Obligations.ReadBufferWindow : Prop :=
  ∀ i : BufIndex, encodeWord (.rdBuf i) = 0x02000000 ||| (i.setWidth 32 <<< 16) ∧
    (∀ n, n ≤ i.toNat → ∃ e, decodeWord n (encodeWord (.rdBuf i)) = .error e) ∧
    ∀ s : State, i.toNat < s.params.pixelCount →
      exec (.rdBuf i) s = .next { s with resp := some ⟨(bufEntry s i.toNat).setWidth 16, false⟩ } ∧
      (Inv s → (bufEntry s i.toNat).toNat < 2 ^ s.params.sampleBits)

/-- R47: no read (`W = 0`) has a side effect, and repeating it gives the same answer. -/
def Obligations.ReadsChangeNothing : Prop :=
  ∀ (s : State) (i : Instr), (encodeWord i).getLsbD 31 = false →
    ∃ w, exec i s = .next w ∧ w = { s with resp := w.resp } ∧ exec i w = .next w

/-! ## Host writes -/

/-- R198 to R201: a configuration write stores any value when the block is not busy and is refused when it is. -/
def Obligations.ConfigurationWrites : Prop :=
  ∀ v : Word,
    encodeWord (.wrHighTicks v) = 0x80030000 ||| v.setWidth 32 ∧ encodeWord (.wrLowTicks v) = 0x80040000 ||| v.setWidth 32 ∧
    encodeWord (.wrTrigHighClocks v) = 0x80050000 ||| v.setWidth 32 ∧
    encodeWord (.wrCycleLimitClocks v) = 0x80060000 ||| v.setWidth 32 ∧
    ∀ s : State,
      (busy s.state = false →
        exec (.wrHighTicks v) s = .next { s with highTicks := v, resp := some ⟨0, false⟩ } ∧
        exec (.wrLowTicks v) s = .next { s with lowTicks := v, resp := some ⟨0, false⟩ } ∧
        exec (.wrTrigHighClocks v) s = .next { s with trigHighClocks := v, resp := some ⟨0, false⟩ } ∧
        exec (.wrCycleLimitClocks v) s = .next { s with cycleLimitClocks := v, resp := some ⟨0, false⟩ }) ∧
      (busy s.state = true →
        exec (.wrHighTicks v) s = .next { s with resp := some ⟨0, true⟩ } ∧
        exec (.wrLowTicks v) s = .next { s with resp := some ⟨0, true⟩ } ∧
        exec (.wrTrigHighClocks v) s = .next { s with resp := some ⟨0, true⟩ } ∧
        exec (.wrCycleLimitClocks v) s = .next { s with resp := some ⟨0, true⟩ })

/-- R202, R151, R152: every word of mask 0xFFFF0001 and match 0x80010001 is START; it is refused while busy, records
ConfigurationError on an invalid configuration, and else begins a cycle.  Every clause gives the whole next state. -/
def Obligations.StartCommand : Prop :=
  encodeWord .start = 0x80010001 ∧ (∀ n c, c &&& 0xFFFF0001 = 0x80010001 → decodeWord n c = .ok .start) ∧
  ∀ s : State,
    (busy s.state = true → exec .start s = .next { s with resp := some ⟨0, true⟩ }) ∧
    (busy s.state = false →
      (s.trigHighClocks.toNat ≥ s.cycleLimitClocks.toNat ∨
        s.highTicks.toNat < s.params.halfTicksMin ∨ s.highTicks.toNat > s.params.halfTicksMax ∨
        s.lowTicks.toNat < s.params.halfTicksMin ∨ s.lowTicks.toNat > s.params.halfTicksMax) →
      exec .start s = .next { s with
        overrunFlag := false, timeoutFlag := false, capErrFlag := false, cfgErrFlag := true, state := .idle
        resp := some ⟨0, false⟩ }) ∧
    (busy s.state = false → s.trigHighClocks.toNat < s.cycleLimitClocks.toNat →
      s.params.halfTicksMin ≤ s.highTicks.toNat → s.highTicks.toNat ≤ s.params.halfTicksMax →
      s.params.halfTicksMin ≤ s.lowTicks.toNat → s.lowTicks.toNat ≤ s.params.halfTicksMax →
      exec .start s = .next { s with
        overrunFlag := false, timeoutFlag := false, capErrFlag := false, cfgErrFlag := false
        clockCount := 0, clockPhase := .low, sampleReadyFlag := false
        readThresholdClock := s.trigHighClocks.setWidth 17 + BitVec.ofNat 17 s.params.pipelineLatencyClocks
        cursor := 0, adcPending := false, adcStart := false, clkOut := true, trigOut := false
        armed := true, tickCount := 0, tickCompare := s.lowTicks, state := .priming
        resp := some ⟨0, false⟩ })

/-- R94, R151: the threshold START computes is the exact sum; no carry leaves its 17 bits. -/
def Obligations.ThresholdSumExact : Prop :=
  ∀ s : State, s.params.Legal → busy s.state = false → configInvalid s = false →
    ∃ t, exec .start s = .next t ∧
      t.readThresholdClock.toNat = s.trigHighClocks.toNat + s.params.pipelineLatencyClocks

/-- R203: every word of mask 0xFFFF0001 and match 0x80010000 is WR_CTRL_NOP, which has no effect. -/
def Obligations.ControlWriteOfZero : Prop :=
  encodeWord .wrCtrlNop = 0x80010000 ∧ (∀ n c, c &&& 0xFFFF0001 = 0x80010000 → decodeWord n c = .ok .wrCtrlNop) ∧
  ∀ s : State,
    (busy s.state = false → exec .wrCtrlNop s = .next { s with resp := some ⟨0, false⟩ }) ∧
    (busy s.state = true → exec .wrCtrlNop s = .next { s with resp := some ⟨0, true⟩ })

/-- R204: the whole effect of a write to a read-only register is the answer `(0, err = 1)`, in every state. -/
def Obligations.ReadOnlyWritesRefused : Prop :=
  ∀ (d : Word) (i : Instr) (a : Word),
    (i, a) ∈ [(Instr.wrRoId d, 0x000#16), (.wrRoStatus d, 0x002#16), (.wrRoClockCount d, 0x007#16),
      (.wrRoReadThresholdLo d, 0x008#16), (.wrRoReadThresholdHi d, 0x009#16), (.wrRoCursor d, 0x00A#16),
      (.wrRoTickCount d, 0x00B#16), (.wrRoTickCompare d, 0x00C#16), (.wrRoPixelCount d, 0x00D#16),
      (.wrRoPipelineLatency d, 0x00E#16)] →
    encodeWord i = 0x80000000 ||| (a.setWidth 32 <<< 16) ||| d.setWidth 32 ∧
    ∀ s : State, exec i s = .next { s with resp := some ⟨0, true⟩ }

/-- R205: the whole effect of a write into the buffer window is the answer `(0, err = 1)`, in every state. -/
def Obligations.BufferWritesRefused : Prop :=
  ∀ (i : BufIndex) (d : Word),
    encodeWord (.wrBuf i d) = 0x82000000 ||| (i.setWidth 32 <<< 16) ||| d.setWidth 32 ∧
    ∀ s : State, exec (.wrBuf i d) s = .next { s with resp := some ⟨0, true⟩ }

/-- R225: a transaction answered `err = 1` changes no state: the edge ends as it would have ended without it, but for the answer. -/
def Obligations.RefusedTransactionLeavesNoTrace : Prop :=
  ∀ (s t : State) (d : Word), (nextInput s).rst = false → step s = .next t → t.resp = some ⟨d, true⟩ →
    d = 0 ∧ t = { finishEdge s { s with resp := none } with resp := t.resp }

/-- R93: at an edge that is neither busy nor a reset, and does not present START, only the four configuration registers can change
(and the answer; the input sample is used up). -/
def Obligations.RestingBlockKeepsState : Prop :=
  ∀ s t : State, busy s.state = false → presented s ≠ .reset → presented s ≠ .op .start → step s = .next t →
    t = { s with
      highTicks := t.highTicks, lowTicks := t.lowTicks, trigHighClocks := t.trigHighClocks
      cycleLimitClocks := t.cycleLimitClocks, resp := t.resp, inputs := s.inputs.tail, edge := s.edge + 1 }

/-! ## TICK -/

/-- R102, R101: TICK_ADVANCE changes `tickCount` only, and a disarmed tick source does nothing. -/
def Obligations.TickAdvanceEffect : Prop :=
  ∀ s : State,
    (s.armed = false → tickPhase s = s) ∧
    (s.armed = true → s.tickCount.toNat + 1 ≠ s.tickCompare.toNat → tickPhase s = { s with tickCount := s.tickCount + 1 })

/-- R111 (with the dispatch of R110): the whole effect of FIRE_RISE. -/
def Obligations.FireRiseEffect : Prop :=
  ∀ s : State, s.armed = true → s.tickCount.toNat + 1 = s.tickCompare.toNat → s.clockPhase = .low →
    tickPhase s = { s with
      trigOut := if s.clockCount = s.trigHighClocks then false else if s.clockCount = 0 then true else s.trigOut
      clkOut := true
      clockPhase := .high
      tickCount := 0
      tickCompare := s.highTicks
      state := if s.state = .priming then .integrating else s.state }

/-- R112, R130 (with the dispatch of R110): the whole effect of FIRE_FALL: at the limit it records AcquisitionTimeout and does not
count; below the threshold it counts; at or above it sets the flag, records a lost window and enters READING.  (No FIRE_FALL of a
reachable state finds PRIMING; the statement says what the pseudocode gives there too.) -/
def Obligations.FireFallEffect : Prop :=
  ∀ s : State, s.armed = true → s.tickCount.toNat + 1 = s.tickCompare.toNat → s.clockPhase = .high →
    tickPhase s =
      if s.clockCount = s.cycleLimitClocks then
        { s with
          clkOut := false, clockPhase := .low, tickCount := 0, tickCompare := s.lowTicks, timeoutFlag := true
          state := if s.state = .priming then .integrating else s.state }
      else if (s.clockCount + 1).toNat < s.readThresholdClock.toNat then
        { s with
          clkOut := false, clockPhase := .low, tickCount := 0, tickCompare := s.lowTicks, clockCount := s.clockCount + 1
          state := if s.state = .priming then .integrating else s.state }
      else
        { s with
          clkOut := false, clockPhase := .low, tickCount := 0, tickCompare := s.lowTicks, clockCount := s.clockCount + 1
          sampleReadyFlag := true
          overrunFlag := s.overrunFlag || s.sampleReadyFlag
          state := if s.state = .integrating then .reading else if s.state = .priming then .integrating else s.state }

/-- R131: at an edge, `sampleReadyFlag` goes from 0 to 1 only by the firing that completes a clock period, and only when the count
then reaches the threshold. -/
def Obligations.ReadySetOnlyAtPeriodEnd : Prop :=
  ∀ s t : State, step s = .next t → s.sampleReadyFlag = false → t.sampleReadyFlag = true →
    busy s.state = true ∧ s.clockPhase = .high ∧ s.tickCount.toNat + 1 = s.tickCompare.toNat ∧
    t.clockPhase = .low ∧ t.clockCount = s.clockCount + 1 ∧ t.readThresholdClock.toNat ≤ t.clockCount.toNat

/-- R113: apart from reset, `trig_out` changes only at a FIRE_RISE edge and at the end of a cycle. -/
def Obligations.TriggerChangesOnlyAtRise : Prop :=
  ∀ s t : State, Inv s → presented s ≠ .reset → step s = .next t → t.trigOut ≠ s.trigOut →
    busy s.state = true ∧
    ((s.clockPhase = .low ∧ s.tickCount.toNat + 1 = s.tickCompare.toNat ∧ t.clockPhase = .high) ∨ busy t.state = false)

/-- R16: within a cycle `clockCount` never decreases: at a busy edge it stays or grows by one, and never passes the limit. -/
def Obligations.ClockCountGrowsByOne : Prop :=
  ∀ s t : State, Inv s → busy s.state = true → presented s ≠ .reset → step s = .next t →
    (t.clockCount = s.clockCount ∨ t.clockCount.toNat = s.clockCount.toNat + 1) ∧
    t.clockCount.toNat ≤ s.cycleLimitClocks.toNat

/-! ## READER -/

/-- R154, R155, R157, R158, R160: which operation the READER performs, first match wins, and the whole effect of all but RD_PUSH. -/
def Obligations.ReaderTurn : Prop :=
  ∀ (inp : PortSample) (s : State),
    (s.timeoutFlag = true →
      readerPhase inp s = { s with
        armed := false, clkOut := true, trigOut := false, adcPending := false, adcStart := false, state := .idle }) ∧
    (s.timeoutFlag = false → s.adcPending = true → inp.adcDone = true → readerPhase inp s = rdPush inp.adcData s) ∧
    (s.timeoutFlag = false → s.adcPending = false → s.sampleReadyFlag = true →
      readerPhase inp s = { s with sampleReadyFlag := false, adcPending := true, adcStart := true }) ∧
    (s.timeoutFlag = false → (s.adcPending = true ∧ inp.adcDone = false) ∨ (s.adcPending = false ∧ s.sampleReadyFlag = false) →
      readerPhase inp s = { s with adcStart := false })

/-- R141, R142, R156, R159: RD_PUSH stores the sample at the cursor and ends the cycle when the buffer is full; in a full buffer it
records CapacityExceeded and stores nothing.  No other entry changes. -/
def Obligations.PushStoresSample : Prop :=
  ∀ (s : State) (v : Sample), s.params.Legal → s.cursor.toNat ≤ s.params.pixelCount →
    (∀ i, i ≠ s.cursor.toNat → bufEntry (rdPush v s) i = bufEntry s i) ∧
    (s.cursor.toNat = s.params.pixelCount →
      rdPush v s = { s with
        armed := false, clkOut := true, trigOut := false, adcPending := false, adcStart := false, state := .complete
        capErrFlag := true }) ∧
    (s.cursor.toNat < s.params.pixelCount →
      bufEntry (rdPush v s) s.cursor.toNat = BitVec.ofNat 10 (v.toNat % 2 ^ s.params.sampleBits) ∧
      (rdPush v s).cursor.toNat = s.cursor.toNat + 1 ∧
      rdPush v s =
        if s.cursor.toNat + 1 = s.params.pixelCount then
          { s with
            buf := (rdPush v s).buf, cursor := (rdPush v s).cursor
            armed := false, clkOut := true, trigOut := false, adcPending := false, adcStart := false, state := .complete }
        else
          { s with buf := (rdPush v s).buf, cursor := (rdPush v s).cursor, adcPending := false, adcStart := false })

/-- R53: RD_CONSUME and a set on the same edge: the set wins over the clear, a conversion is in flight, no overrun is recorded. -/
def Obligations.CollisionSetWins : Prop :=
  ∀ s : State, (nextInput s).rst = false → busy s.state = true → s.armed = true → s.timeoutFlag = false →
    s.adcPending = false → s.sampleReadyFlag = true → s.clockPhase = .high →
    s.tickCount.toNat + 1 = s.tickCompare.toNat → s.clockCount ≠ s.cycleLimitClocks →
    s.readThresholdClock.toNat ≤ (s.clockCount + 1).toNat →
    ∃ t, step s = .next t ∧ t.sampleReadyFlag = true ∧ t.adcPending = true ∧ t.adcStart = true ∧
      t.overrunFlag = s.overrunFlag ∧ t.clockCount = s.clockCount + 1 ∧ t.cursor = s.cursor

/-- R160, R92: at the edge after the timeout flag was set the cycle ends, before a sample delivered at this very edge and before a
firing due at it, whatever else the ports carry. -/
def Obligations.TimeoutEndsCycle : Prop :=
  ∀ s : State, (nextInput s).rst = false → busy s.state = true → s.timeoutFlag = true →
    ∃ r, step s = .next { s with
      armed := false, clkOut := true, trigOut := false, adcPending := false, adcStart := false, state := .idle
      resp := r, inputs := s.inputs.tail, edge := s.edge + 1 }

/-- R33: `adc_start` is 1 after an edge exactly when that edge was a RD_CONSUME edge, and 0 at reset. -/
def Obligations.ConversionRequestPulse : Prop :=
  State.reset.adcStart = false ∧
  ∀ s t : State, Inv s → step s = .next t →
    (t.adcStart = true ↔
      (nextInput s).rst = false ∧ busy s.state = true ∧ s.timeoutFlag = false ∧ s.adcPending = false ∧
        s.sampleReadyFlag = true)

/-- R57, R145: apart from reset, an entry of `buf` changes only by RD_PUSH, only at index `cursor`, and then holds the delivered
sample. -/
def Obligations.BufferWrittenOnlyByPush : Prop :=
  ∀ s t : State, (nextInput s).rst = false → step s = .next t → ∀ i : Nat,
    bufEntry t i =
      if busy s.state = true ∧ s.timeoutFlag = false ∧ s.adcPending = true ∧ (nextInput s).adcDone = true ∧
          s.cursor.toNat ≠ s.params.pixelCount ∧ i = s.cursor.toNat then
        truncateSample s.params.sampleBits (nextInput s).adcData
      else bufEntry s i

/-! ## Ownership and inputs -/

/-- R236, R55: a running cycle does not depend on host traffic: whatever transaction is presented at a busy edge, the next states
differ in the answer only. -/
def Obligations.HostTrafficInvisibleWhileBusy : Prop :=
  ∀ (s : State) (inp : PortSample) (rest : List PortSample) (v w : Bool) (r : BitVec 5) (a : Addr) (d : Word),
    busy s.state = true → s.inputs = inp :: rest →
    ∃ t t', step s = .next t ∧
      step { s with inputs := { inp with hValid := v, hWe := w, hRsv := r, hAddr := a, hWdata := d } :: rest } = .next t' ∧
      { t' with resp := t.resp } = t

/-- R162, R239: `eos_in` is never read; `adc_done` and `adc_data` are not read when no conversion is pending, the block is not busy
or the cycle has timed out; `adc_data` is not read when `adc_done` is 0. -/
def Obligations.IgnoredInputs : Prop :=
  ∀ (s : State) (inp : PortSample) (rest : List PortSample) (e d : Bool) (v : Sample), s.inputs = inp :: rest →
    step { s with inputs := { inp with eosIn := e } :: rest } = step s ∧
    (s.adcPending = false ∨ busy s.state = false ∨ s.timeoutFlag = true →
      step { s with inputs := { inp with adcDone := d, adcData := v } :: rest } = step s) ∧
    (inp.adcDone = false → step { s with inputs := { inp with adcData := v } :: rest } = step s)

/-- R55, R198: while busy the configuration registers and the threshold keep their values, whatever the host writes. -/
def Obligations.ConfigurationFrozenWhileBusy : Prop :=
  ∀ s t : State, busy s.state = true → (nextInput s).rst = false → step s = .next t →
    t.highTicks = s.highTicks ∧ t.lowTicks = s.lowTicks ∧ t.trigHighClocks = s.trigHighClocks ∧
    t.cycleLimitClocks = s.cycleLimitClocks ∧ t.readThresholdClock = s.readThresholdClock

/-- R234: apart from reset and an accepted START, every error flag that is set stays set. -/
def Obligations.ErrorFlagsSticky : Prop :=
  ∀ s t : State, presented s ≠ .reset → (presented s ≠ .op .start ∨ busy s.state = true) → step s = .next t →
    (s.overrunFlag = true → t.overrunFlag = true) ∧ (s.timeoutFlag = true → t.timeoutFlag = true) ∧
    (s.capErrFlag = true → t.capErrFlag = true) ∧ (s.cfgErrFlag = true → t.cfgErrFlag = true)

/-- R220: each error flag is raised only by its cause: a ready event that finds the flag set, a period completed at the limit, a push
into a full buffer, a START with an invalid configuration. -/
def Obligations.ErrorCauses : Prop :=
  ∀ s t : State, step s = .next t →
    (s.overrunFlag = false → t.overrunFlag = true →
      busy s.state = true ∧ s.sampleReadyFlag = true ∧ s.clockPhase = .high ∧
      s.tickCount.toNat + 1 = s.tickCompare.toNat ∧ s.readThresholdClock.toNat ≤ t.clockCount.toNat) ∧
    (s.timeoutFlag = false → t.timeoutFlag = true →
      busy s.state = true ∧ s.clockPhase = .high ∧ s.tickCount.toNat + 1 = s.tickCompare.toNat ∧
      s.clockCount = s.cycleLimitClocks ∧ t.clockCount = s.cycleLimitClocks) ∧
    (s.capErrFlag = false → t.capErrFlag = true →
      busy s.state = true ∧ s.adcPending = true ∧ (nextInput s).adcDone = true ∧ s.cursor.toNat = s.params.pixelCount) ∧
    (s.cfgErrFlag = false → t.cfgErrFlag = true →
      busy s.state = false ∧ presented s = .op .start ∧ configInvalid s = true ∧ t.state = .idle)

/-- R163: the complete transition table of `state`: at every edge the row holds whose event happened, and `state` stays when none
did. -/
def Obligations.StateTransitionTable : Prop :=
  ∀ s t : State, Inv s → step s = .next t →
    (presented s = .reset ∧ t.state = .idle) ∨
    (presented s ≠ .reset ∧
      ((presented s ≠ .op .start ∧ busy s.state = false ∧ t.state = s.state) ∨
       (presented s = .op .start ∧ busy s.state = false ∧ configInvalid s = false ∧ t.state = .priming) ∨
       (presented s = .op .start ∧ busy s.state = false ∧ configInvalid s = true ∧ t.state = .idle) ∨
       (busy s.state = true ∧ t.state = s.state ∧ s.timeoutFlag = false ∧ t.cursor.toNat ≠ s.params.pixelCount ∧
          ¬ (s.state = .priming ∧ s.tickCount.toNat + 1 = s.tickCompare.toNat) ∧
          ¬ (s.state = .integrating ∧ t.sampleReadyFlag = true)) ∨
       (s.state = .priming ∧ s.tickCount.toNat + 1 = s.tickCompare.toNat ∧ s.clockPhase = .low ∧ t.state = .integrating) ∨
       (s.state = .integrating ∧ s.sampleReadyFlag = false ∧ t.sampleReadyFlag = true ∧ t.state = .reading) ∨
       (s.state = .reading ∧ t.cursor.toNat = s.cursor.toNat + 1 ∧ t.cursor.toNat = s.params.pixelCount ∧
          t.state = .complete) ∨
       ((s.state = .integrating ∨ s.state = .reading) ∧ s.timeoutFlag = true ∧ t.state = .idle)))

/-! ## Invariants -/

/-- R37 and R6 at the reset state, for the free parameter values of this hardware (log 4). -/
def Obligations.ResetStateMeetsInvariants : Prop := Inv State.reset

/-- R37: every edge, from any state that meets the invariants and whatever the ports carry, leads to a state that meets them.  `Inv`
holds R37's items and the facts of other rules that make them inductive. -/
def Obligations.EveryEdgeKeepsInvariants : Prop := ∀ s t : State, Inv s → step s = .next t → Inv t

/-- R37: the invariants hold after every edge, in every state that any legal parameters and any placed input samples reach from
reset. -/
def Obligations.ReachableStatesMeetInvariants : Prop :=
  ∀ (p : Params) (l : List PortSample) (n : Nat) (t : State), p.Legal →
    RunsTo n { State.reset with params := p, inputs := l } t → Inv t

/-- R115, R114: in a running cycle past its first firing, `trig_out` is 1 exactly until the FIRE_RISE at which `clockCount ==
trigHighClocks`; every edge keeps this, and START establishes it. -/
def Obligations.EveryEdgeKeepsTriggerShape : Prop :=
  ∀ s t : State, Inv s → (busy s.state = true → s.state ≠ .priming → s.trigOut = trigLevel s) → step s = .next t →
    busy t.state = true → t.state ≠ .priming → t.trigOut = trigLevel t

/-! ## Encoding -/

/-- R78, R80: decoding the encoding of a well-formed instruction gives it back, every operand at every value. -/
def Obligations.DecodeOfEncode : Prop :=
  ∀ (n : Nat) (i : Instr), i.wellFormed n = true → (encode i).map (decodeWord n) = [.ok i]

/-- R80: the encoder is the decoder's inverse on canonical words (reads with `DATA = 0`, `CTRL` writes with `DATA[15:1] = 0`). -/
def Obligations.EncodeOfDecodeCanonical : Prop :=
  ∀ (n : Nat) (c : CmdWord) (i : Instr), decodeWord n c = .ok i →
    (c.getLsbD 31 = false → c.setWidth 16 = 0#16) →
    (c.getLsbD 31 = true → c.extractLsb' 16 10 = 0x001#10 → c.extractLsb' 1 15 = 0#15) →
    encodeWord i = c

/-- R78: on this hardware a word decodes to an instruction exactly when it matches that instruction's row of the opcode table; rows
never overlap. -/
def Obligations.DecodeMatchesOpcodeTable : Prop :=
  (∀ (c : CmdWord) (i : Instr), decodeWord 512 c = .ok i → c &&& (opcodeRow i).2 = (opcodeRow i).1) ∧
  (∀ (c : CmdWord) (j : Instr), c &&& (opcodeRow j).2 = (opcodeRow j).1 →
    ∃ i, decodeWord 512 c = .ok i ∧ opcodeRow i = opcodeRow j) ∧
  (∀ (c : CmdWord) (i j : Instr), c &&& (opcodeRow i).2 = (opcodeRow i).1 → c &&& (opcodeRow j).2 = (opcodeRow j).1 →
    opcodeRow i = opcodeRow j)

/-- The words of spec/95_test_vectors.md V3 decode to the operations it lists. -/
def Obligations.DecodeSampleWords : Prop :=
  decodeWord 512 0x0002BEEF = .ok .rdStatus ∧ decodeWord 512 0x03FF0000 = .ok (.rdBuf 511) ∧
  decodeWord 4 0x02040000 = .error .bufferIndex ∧ decodeWord 512 0x8005012C = .ok (.wrTrigHighClocks 300) ∧
  decodeWord 512 0x8001FFFF = .ok .start ∧ decodeWord 512 0x8001FFFE = .ok .wrCtrlNop ∧
  decodeWord 512 0x800A0000 = .ok (.wrRoCursor 0) ∧ decodeWord 512 0x82070055 = .ok (.wrBuf 7 0x55) ∧
  decodeWord 512 0x01FF0000 = .error .unmappedAddress ∧ decodeWord 512 0x84030005 = .error .reservedBits

/-! ## Whole cycles -/

/-- R164: every cycle ends: from any good busy state the block is not busy after at most `(M + 1)(Lo + Hi) + 1` edges, whatever the ADC
and the host do. -/
def Obligations.EveryCycleEnds : Prop :=
  ∀ s : State, Inv s → busy s.state = true →
    ∃ k t, k ≤ (s.cycleLimitClocks.toNat + 1) * period s + 1 ∧ RunsTo k s t ∧ busy t.state = false

/-- R108, R268: the firing times are exact, whatever the READER, the ADC and the host do: `k` edges after START, in a cycle that still
runs and has not timed out, the counters are those of the firings at `E(2q) = q (Lo + Hi)` and `E(2q + 1) = q (Lo + Hi) + Lo`. -/
def Obligations.FiringTimesExact : Prop :=
  ∀ (s t : State) (k : Nat), CycleStart s → BusyBefore k s → RunsTo k s t → busy t.state = true → t.timeoutFlag = false →
    t.clockCount.toNat = k / period s ∧
    (k % period s < s.lowTicks.toNat →
      t.clockPhase = .low ∧ t.tickCount.toNat = k % period s ∧ t.tickCompare = s.lowTicks) ∧
    (s.lowTicks.toNat ≤ k % period s →
      t.clockPhase = .high ∧ t.tickCount.toNat = k % period s - s.lowTicks.toNat ∧ t.tickCompare = s.highTicks)

/-- R114: the two lines `k` edges after START: `clk_out` is 1 until the first falling transition at edge `Lo + Hi` and then low for `Lo`
and high for `Hi` timer units; `trig_out` is 1 from edge `Lo` to edge `T (Lo + Hi) + Lo`. -/
def Obligations.LineWaveforms : Prop :=
  ∀ (s t : State) (k : Nat), CycleStart s → BusyBefore k s → RunsTo k s t → busy t.state = true → t.timeoutFlag = false →
    t.clkOut = decide (k < period s ∨ s.lowTicks.toNat ≤ k % period s) ∧
    t.trigOut = decide (s.lowTicks.toNat ≤ k ∧ k < s.trigHighClocks.toNat * period s + s.lowTicks.toNat)

/-- R163, R132: the stage of the cycle `k` edges after START: PRIMING until the first firing, INTEGRATING until the first ready event at
edge `(T + L)(Lo + Hi)` (the first completed period where `T + L = 0`), READING from then on. -/
def Obligations.CycleStages : Prop :=
  ∀ (s t : State) (k : Nat), CycleStart s → BusyBefore k s → RunsTo k s t → busy t.state = true → t.timeoutFlag = false →
    t.state =
      if k < s.lowTicks.toNat then .priming
      else if k < max 1 (s.trigHighClocks.toNat + s.params.pipelineLatencyClocks) * period s then .integrating
      else .reading

/-- R266: if every conversion request, made at an edge `j`, is answered at an edge `j + d` with `1 <= d` and `d + 1 <= Lo + Hi`, then no
window is lost in the cycle. -/
def Obligations.NoLostWindow : Prop :=
  ∀ s : State, CycleStart s →
    (∀ j u, BusyBefore j s → RunsTo j s u → u.adcStart = true →
      ∃ d, 1 ≤ d ∧ d + 1 ≤ period s ∧ (inputAt s (j + d - 1)).adcDone = true) →
    ∀ k t, BusyBefore k s → RunsTo k s t → t.overrunFlag = false

/-- R272, R159, R143: the ordinary case.  With a limit that leaves room, no reset, and the sample of request `j` delivered `d j` edges
after its RD_CONSUME edge, `1 <= d j`, `d j + 1 <= Lo + Hi`, and `d + 1 <= Lo` for the last, the cycle completes at edge
`(T + L + P - 1)(Lo + Hi) + 1 + d`, the buffer holds the delivered samples in order, and the block stands as R272 says. -/
def Obligations.OrdinaryCycleCapturesAllSamples : Prop :=
  ∀ (s : State) (d : Nat → Nat),
    let thr := s.trigHighClocks.toNat + s.params.pipelineLatencyClocks
    let P := s.params.pixelCount
    let e := fun j => (thr + j) * period s + 1 + d j
    CycleStart s → 1 ≤ thr → thr + P - 1 ≤ s.cycleLimitClocks.toNat →
    (∀ j < P, 1 ≤ d j ∧ d j + 1 ≤ period s) → d (P - 1) + 1 ≤ s.lowTicks.toNat →
    (∀ n < e (P - 1), (inputAt s n).rst = false) →
    (∀ j < P, (inputAt s (e j - 1)).adcDone = true ∧
      ∀ n, (thr + j) * period s + 1 ≤ n → n + 1 < e j → (inputAt s n).adcDone = false) →
    ∃ t, RunsTo (e (P - 1)) s t ∧ BusyBefore (e (P - 1)) s ∧ t.state = .complete ∧ t.cursor.toNat = P ∧
      (∀ j < P, bufEntry t j = truncateSample s.params.sampleBits (inputAt s (e j - 1)).adcData) ∧
      t.clockCount.toNat = thr + P - 1 ∧ t.clockPhase = .low ∧ t.tickCompare = s.lowTicks ∧
      t.tickCount.toNat = d (P - 1) ∧ t.sampleReadyFlag = false ∧ statusWord t = 0x0044
end

