-- ==== Sys2Proof/Laws/State.lean ====
section
/-! SUPPORT. One lemma per field per unconditional update, true by `rfl`: no later proof unfolds a record update. -/

namespace Sys2Proof.Machine

@[simp] theorem respond_params (d : Word) (e : Bool) (s : State) : (respond d e s).params = s.params := rfl
@[simp] theorem respond_highTicks (d : Word) (e : Bool) (s : State) : (respond d e s).highTicks = s.highTicks := rfl
@[simp] theorem respond_lowTicks (d : Word) (e : Bool) (s : State) : (respond d e s).lowTicks = s.lowTicks := rfl
@[simp] theorem respond_trigHighClocks (d : Word) (e : Bool) (s : State) : (respond d e s).trigHighClocks = s.trigHighClocks := rfl
@[simp] theorem respond_cycleLimitClocks (d : Word) (e : Bool) (s : State) : (respond d e s).cycleLimitClocks = s.cycleLimitClocks := rfl
@[simp] theorem respond_clockCount (d : Word) (e : Bool) (s : State) : (respond d e s).clockCount = s.clockCount := rfl
@[simp] theorem respond_clockPhase (d : Word) (e : Bool) (s : State) : (respond d e s).clockPhase = s.clockPhase := rfl
@[simp] theorem respond_sampleReadyFlag (d : Word) (e : Bool) (s : State) : (respond d e s).sampleReadyFlag = s.sampleReadyFlag := rfl
@[simp] theorem respond_readThresholdClock (d : Word) (e : Bool) (s : State) : (respond d e s).readThresholdClock = s.readThresholdClock := rfl
@[simp] theorem respond_buf (d : Word) (e : Bool) (s : State) : (respond d e s).buf = s.buf := rfl
@[simp] theorem respond_cursor (d : Word) (e : Bool) (s : State) : (respond d e s).cursor = s.cursor := rfl
@[simp] theorem respond_armed (d : Word) (e : Bool) (s : State) : (respond d e s).armed = s.armed := rfl
@[simp] theorem respond_tickCount (d : Word) (e : Bool) (s : State) : (respond d e s).tickCount = s.tickCount := rfl
@[simp] theorem respond_tickCompare (d : Word) (e : Bool) (s : State) : (respond d e s).tickCompare = s.tickCompare := rfl
@[simp] theorem respond_state (d : Word) (e : Bool) (s : State) : (respond d e s).state = s.state := rfl
@[simp] theorem respond_adcPending (d : Word) (e : Bool) (s : State) : (respond d e s).adcPending = s.adcPending := rfl
@[simp] theorem respond_overrunFlag (d : Word) (e : Bool) (s : State) : (respond d e s).overrunFlag = s.overrunFlag := rfl
@[simp] theorem respond_timeoutFlag (d : Word) (e : Bool) (s : State) : (respond d e s).timeoutFlag = s.timeoutFlag := rfl
@[simp] theorem respond_capErrFlag (d : Word) (e : Bool) (s : State) : (respond d e s).capErrFlag = s.capErrFlag := rfl
@[simp] theorem respond_cfgErrFlag (d : Word) (e : Bool) (s : State) : (respond d e s).cfgErrFlag = s.cfgErrFlag := rfl
@[simp] theorem respond_clkOut (d : Word) (e : Bool) (s : State) : (respond d e s).clkOut = s.clkOut := rfl
@[simp] theorem respond_trigOut (d : Word) (e : Bool) (s : State) : (respond d e s).trigOut = s.trigOut := rfl
@[simp] theorem respond_adcStart (d : Word) (e : Bool) (s : State) : (respond d e s).adcStart = s.adcStart := rfl
@[simp] theorem respond_resp (d : Word) (e : Bool) (s : State) : (respond d e s).resp = some ⟨d, e⟩ := rfl
@[simp] theorem respond_inputs (d : Word) (e : Bool) (s : State) : (respond d e s).inputs = s.inputs := rfl
@[simp] theorem respond_edge (d : Word) (e : Bool) (s : State) : (respond d e s).edge = s.edge := rfl
@[simp] theorem respond_bufEpoch (d : Word) (e : Bool) (s : State) : (respond d e s).bufEpoch = s.bufEpoch := rfl

@[simp] theorem refuse_params (s : State) : (refuse s).params = s.params := rfl
@[simp] theorem refuse_highTicks (s : State) : (refuse s).highTicks = s.highTicks := rfl
@[simp] theorem refuse_lowTicks (s : State) : (refuse s).lowTicks = s.lowTicks := rfl
@[simp] theorem refuse_trigHighClocks (s : State) : (refuse s).trigHighClocks = s.trigHighClocks := rfl
@[simp] theorem refuse_cycleLimitClocks (s : State) : (refuse s).cycleLimitClocks = s.cycleLimitClocks := rfl
@[simp] theorem refuse_clockCount (s : State) : (refuse s).clockCount = s.clockCount := rfl
@[simp] theorem refuse_clockPhase (s : State) : (refuse s).clockPhase = s.clockPhase := rfl
@[simp] theorem refuse_sampleReadyFlag (s : State) : (refuse s).sampleReadyFlag = s.sampleReadyFlag := rfl
@[simp] theorem refuse_readThresholdClock (s : State) : (refuse s).readThresholdClock = s.readThresholdClock := rfl
@[simp] theorem refuse_buf (s : State) : (refuse s).buf = s.buf := rfl
@[simp] theorem refuse_cursor (s : State) : (refuse s).cursor = s.cursor := rfl
@[simp] theorem refuse_armed (s : State) : (refuse s).armed = s.armed := rfl
@[simp] theorem refuse_tickCount (s : State) : (refuse s).tickCount = s.tickCount := rfl
@[simp] theorem refuse_tickCompare (s : State) : (refuse s).tickCompare = s.tickCompare := rfl
@[simp] theorem refuse_state (s : State) : (refuse s).state = s.state := rfl
@[simp] theorem refuse_adcPending (s : State) : (refuse s).adcPending = s.adcPending := rfl
@[simp] theorem refuse_overrunFlag (s : State) : (refuse s).overrunFlag = s.overrunFlag := rfl
@[simp] theorem refuse_timeoutFlag (s : State) : (refuse s).timeoutFlag = s.timeoutFlag := rfl
@[simp] theorem refuse_capErrFlag (s : State) : (refuse s).capErrFlag = s.capErrFlag := rfl
@[simp] theorem refuse_cfgErrFlag (s : State) : (refuse s).cfgErrFlag = s.cfgErrFlag := rfl
@[simp] theorem refuse_clkOut (s : State) : (refuse s).clkOut = s.clkOut := rfl
@[simp] theorem refuse_trigOut (s : State) : (refuse s).trigOut = s.trigOut := rfl
@[simp] theorem refuse_adcStart (s : State) : (refuse s).adcStart = s.adcStart := rfl
@[simp] theorem refuse_resp (s : State) : (refuse s).resp = some ⟨0, true⟩ := rfl
@[simp] theorem refuse_inputs (s : State) : (refuse s).inputs = s.inputs := rfl
@[simp] theorem refuse_edge (s : State) : (refuse s).edge = s.edge := rfl
@[simp] theorem refuse_bufEpoch (s : State) : (refuse s).bufEpoch = s.bufEpoch := rfl

@[simp] theorem hostNone_params (s : State) : (hostNone s).params = s.params := rfl
@[simp] theorem hostNone_highTicks (s : State) : (hostNone s).highTicks = s.highTicks := rfl
@[simp] theorem hostNone_lowTicks (s : State) : (hostNone s).lowTicks = s.lowTicks := rfl
@[simp] theorem hostNone_trigHighClocks (s : State) : (hostNone s).trigHighClocks = s.trigHighClocks := rfl
@[simp] theorem hostNone_cycleLimitClocks (s : State) : (hostNone s).cycleLimitClocks = s.cycleLimitClocks := rfl
@[simp] theorem hostNone_clockCount (s : State) : (hostNone s).clockCount = s.clockCount := rfl
@[simp] theorem hostNone_clockPhase (s : State) : (hostNone s).clockPhase = s.clockPhase := rfl
@[simp] theorem hostNone_sampleReadyFlag (s : State) : (hostNone s).sampleReadyFlag = s.sampleReadyFlag := rfl
@[simp] theorem hostNone_readThresholdClock (s : State) : (hostNone s).readThresholdClock = s.readThresholdClock := rfl
@[simp] theorem hostNone_buf (s : State) : (hostNone s).buf = s.buf := rfl
@[simp] theorem hostNone_cursor (s : State) : (hostNone s).cursor = s.cursor := rfl
@[simp] theorem hostNone_armed (s : State) : (hostNone s).armed = s.armed := rfl
@[simp] theorem hostNone_tickCount (s : State) : (hostNone s).tickCount = s.tickCount := rfl
@[simp] theorem hostNone_tickCompare (s : State) : (hostNone s).tickCompare = s.tickCompare := rfl
@[simp] theorem hostNone_state (s : State) : (hostNone s).state = s.state := rfl
@[simp] theorem hostNone_adcPending (s : State) : (hostNone s).adcPending = s.adcPending := rfl
@[simp] theorem hostNone_overrunFlag (s : State) : (hostNone s).overrunFlag = s.overrunFlag := rfl
@[simp] theorem hostNone_timeoutFlag (s : State) : (hostNone s).timeoutFlag = s.timeoutFlag := rfl
@[simp] theorem hostNone_capErrFlag (s : State) : (hostNone s).capErrFlag = s.capErrFlag := rfl
@[simp] theorem hostNone_cfgErrFlag (s : State) : (hostNone s).cfgErrFlag = s.cfgErrFlag := rfl
@[simp] theorem hostNone_clkOut (s : State) : (hostNone s).clkOut = s.clkOut := rfl
@[simp] theorem hostNone_trigOut (s : State) : (hostNone s).trigOut = s.trigOut := rfl
@[simp] theorem hostNone_adcStart (s : State) : (hostNone s).adcStart = s.adcStart := rfl
@[simp] theorem hostNone_resp (s : State) : (hostNone s).resp = none := rfl
@[simp] theorem hostNone_inputs (s : State) : (hostNone s).inputs = s.inputs := rfl
@[simp] theorem hostNone_edge (s : State) : (hostNone s).edge = s.edge := rfl
@[simp] theorem hostNone_bufEpoch (s : State) : (hostNone s).bufEpoch = s.bufEpoch := rfl

@[simp] theorem consumeInput_params (s : State) : (consumeInput s).params = s.params := rfl
@[simp] theorem consumeInput_highTicks (s : State) : (consumeInput s).highTicks = s.highTicks := rfl
@[simp] theorem consumeInput_lowTicks (s : State) : (consumeInput s).lowTicks = s.lowTicks := rfl
@[simp] theorem consumeInput_trigHighClocks (s : State) : (consumeInput s).trigHighClocks = s.trigHighClocks := rfl
@[simp] theorem consumeInput_cycleLimitClocks (s : State) : (consumeInput s).cycleLimitClocks = s.cycleLimitClocks := rfl
@[simp] theorem consumeInput_clockCount (s : State) : (consumeInput s).clockCount = s.clockCount := rfl
@[simp] theorem consumeInput_clockPhase (s : State) : (consumeInput s).clockPhase = s.clockPhase := rfl
@[simp] theorem consumeInput_sampleReadyFlag (s : State) : (consumeInput s).sampleReadyFlag = s.sampleReadyFlag := rfl
@[simp] theorem consumeInput_readThresholdClock (s : State) : (consumeInput s).readThresholdClock = s.readThresholdClock := rfl
@[simp] theorem consumeInput_buf (s : State) : (consumeInput s).buf = s.buf := rfl
@[simp] theorem consumeInput_cursor (s : State) : (consumeInput s).cursor = s.cursor := rfl
@[simp] theorem consumeInput_armed (s : State) : (consumeInput s).armed = s.armed := rfl
@[simp] theorem consumeInput_tickCount (s : State) : (consumeInput s).tickCount = s.tickCount := rfl
@[simp] theorem consumeInput_tickCompare (s : State) : (consumeInput s).tickCompare = s.tickCompare := rfl
@[simp] theorem consumeInput_state (s : State) : (consumeInput s).state = s.state := rfl
@[simp] theorem consumeInput_adcPending (s : State) : (consumeInput s).adcPending = s.adcPending := rfl
@[simp] theorem consumeInput_overrunFlag (s : State) : (consumeInput s).overrunFlag = s.overrunFlag := rfl
@[simp] theorem consumeInput_timeoutFlag (s : State) : (consumeInput s).timeoutFlag = s.timeoutFlag := rfl
@[simp] theorem consumeInput_capErrFlag (s : State) : (consumeInput s).capErrFlag = s.capErrFlag := rfl
@[simp] theorem consumeInput_cfgErrFlag (s : State) : (consumeInput s).cfgErrFlag = s.cfgErrFlag := rfl
@[simp] theorem consumeInput_clkOut (s : State) : (consumeInput s).clkOut = s.clkOut := rfl
@[simp] theorem consumeInput_trigOut (s : State) : (consumeInput s).trigOut = s.trigOut := rfl
@[simp] theorem consumeInput_adcStart (s : State) : (consumeInput s).adcStart = s.adcStart := rfl
@[simp] theorem consumeInput_resp (s : State) : (consumeInput s).resp = s.resp := rfl
@[simp] theorem consumeInput_inputs (s : State) : (consumeInput s).inputs = s.inputs.tail := rfl
@[simp] theorem consumeInput_edge (s : State) : (consumeInput s).edge = s.edge + 1 := rfl
@[simp] theorem consumeInput_bufEpoch (s : State) : (consumeInput s).bufEpoch = s.bufEpoch := rfl

@[simp] theorem placeWord_params (c : CmdWord) (s : State) : (placeWord c s).params = s.params := rfl
@[simp] theorem placeWord_highTicks (c : CmdWord) (s : State) : (placeWord c s).highTicks = s.highTicks := rfl
@[simp] theorem placeWord_lowTicks (c : CmdWord) (s : State) : (placeWord c s).lowTicks = s.lowTicks := rfl
@[simp] theorem placeWord_trigHighClocks (c : CmdWord) (s : State) : (placeWord c s).trigHighClocks = s.trigHighClocks := rfl
@[simp] theorem placeWord_cycleLimitClocks (c : CmdWord) (s : State) : (placeWord c s).cycleLimitClocks = s.cycleLimitClocks := rfl
@[simp] theorem placeWord_clockCount (c : CmdWord) (s : State) : (placeWord c s).clockCount = s.clockCount := rfl
@[simp] theorem placeWord_clockPhase (c : CmdWord) (s : State) : (placeWord c s).clockPhase = s.clockPhase := rfl
@[simp] theorem placeWord_sampleReadyFlag (c : CmdWord) (s : State) : (placeWord c s).sampleReadyFlag = s.sampleReadyFlag := rfl
@[simp] theorem placeWord_readThresholdClock (c : CmdWord) (s : State) : (placeWord c s).readThresholdClock = s.readThresholdClock := rfl
@[simp] theorem placeWord_buf (c : CmdWord) (s : State) : (placeWord c s).buf = s.buf := rfl
@[simp] theorem placeWord_cursor (c : CmdWord) (s : State) : (placeWord c s).cursor = s.cursor := rfl
@[simp] theorem placeWord_armed (c : CmdWord) (s : State) : (placeWord c s).armed = s.armed := rfl
@[simp] theorem placeWord_tickCount (c : CmdWord) (s : State) : (placeWord c s).tickCount = s.tickCount := rfl
@[simp] theorem placeWord_tickCompare (c : CmdWord) (s : State) : (placeWord c s).tickCompare = s.tickCompare := rfl
@[simp] theorem placeWord_state (c : CmdWord) (s : State) : (placeWord c s).state = s.state := rfl
@[simp] theorem placeWord_adcPending (c : CmdWord) (s : State) : (placeWord c s).adcPending = s.adcPending := rfl
@[simp] theorem placeWord_overrunFlag (c : CmdWord) (s : State) : (placeWord c s).overrunFlag = s.overrunFlag := rfl
@[simp] theorem placeWord_timeoutFlag (c : CmdWord) (s : State) : (placeWord c s).timeoutFlag = s.timeoutFlag := rfl
@[simp] theorem placeWord_capErrFlag (c : CmdWord) (s : State) : (placeWord c s).capErrFlag = s.capErrFlag := rfl
@[simp] theorem placeWord_cfgErrFlag (c : CmdWord) (s : State) : (placeWord c s).cfgErrFlag = s.cfgErrFlag := rfl
@[simp] theorem placeWord_clkOut (c : CmdWord) (s : State) : (placeWord c s).clkOut = s.clkOut := rfl
@[simp] theorem placeWord_trigOut (c : CmdWord) (s : State) : (placeWord c s).trigOut = s.trigOut := rfl
@[simp] theorem placeWord_adcStart (c : CmdWord) (s : State) : (placeWord c s).adcStart = s.adcStart := rfl
@[simp] theorem placeWord_resp (c : CmdWord) (s : State) : (placeWord c s).resp = s.resp := rfl
@[simp] theorem placeWord_inputs (c : CmdWord) (s : State) : (placeWord c s).inputs = presentWord c (nextInput s) :: s.inputs.tail := rfl
@[simp] theorem placeWord_edge (c : CmdWord) (s : State) : (placeWord c s).edge = s.edge := rfl
@[simp] theorem placeWord_bufEpoch (c : CmdWord) (s : State) : (placeWord c s).bufEpoch = s.bufEpoch := rfl

@[simp] theorem clearErrors_params (s : State) : (clearErrors s).params = s.params := rfl
@[simp] theorem clearErrors_highTicks (s : State) : (clearErrors s).highTicks = s.highTicks := rfl
@[simp] theorem clearErrors_lowTicks (s : State) : (clearErrors s).lowTicks = s.lowTicks := rfl
@[simp] theorem clearErrors_trigHighClocks (s : State) : (clearErrors s).trigHighClocks = s.trigHighClocks := rfl
@[simp] theorem clearErrors_cycleLimitClocks (s : State) : (clearErrors s).cycleLimitClocks = s.cycleLimitClocks := rfl
@[simp] theorem clearErrors_clockCount (s : State) : (clearErrors s).clockCount = s.clockCount := rfl
@[simp] theorem clearErrors_clockPhase (s : State) : (clearErrors s).clockPhase = s.clockPhase := rfl
@[simp] theorem clearErrors_sampleReadyFlag (s : State) : (clearErrors s).sampleReadyFlag = s.sampleReadyFlag := rfl
@[simp] theorem clearErrors_readThresholdClock (s : State) : (clearErrors s).readThresholdClock = s.readThresholdClock := rfl
@[simp] theorem clearErrors_buf (s : State) : (clearErrors s).buf = s.buf := rfl
@[simp] theorem clearErrors_cursor (s : State) : (clearErrors s).cursor = s.cursor := rfl
@[simp] theorem clearErrors_armed (s : State) : (clearErrors s).armed = s.armed := rfl
@[simp] theorem clearErrors_tickCount (s : State) : (clearErrors s).tickCount = s.tickCount := rfl
@[simp] theorem clearErrors_tickCompare (s : State) : (clearErrors s).tickCompare = s.tickCompare := rfl
@[simp] theorem clearErrors_state (s : State) : (clearErrors s).state = s.state := rfl
@[simp] theorem clearErrors_adcPending (s : State) : (clearErrors s).adcPending = s.adcPending := rfl
@[simp] theorem clearErrors_overrunFlag (s : State) : (clearErrors s).overrunFlag = false := rfl
@[simp] theorem clearErrors_timeoutFlag (s : State) : (clearErrors s).timeoutFlag = false := rfl
@[simp] theorem clearErrors_capErrFlag (s : State) : (clearErrors s).capErrFlag = false := rfl
@[simp] theorem clearErrors_cfgErrFlag (s : State) : (clearErrors s).cfgErrFlag = false := rfl
@[simp] theorem clearErrors_clkOut (s : State) : (clearErrors s).clkOut = s.clkOut := rfl
@[simp] theorem clearErrors_trigOut (s : State) : (clearErrors s).trigOut = s.trigOut := rfl
@[simp] theorem clearErrors_adcStart (s : State) : (clearErrors s).adcStart = s.adcStart := rfl
@[simp] theorem clearErrors_resp (s : State) : (clearErrors s).resp = s.resp := rfl
@[simp] theorem clearErrors_inputs (s : State) : (clearErrors s).inputs = s.inputs := rfl
@[simp] theorem clearErrors_edge (s : State) : (clearErrors s).edge = s.edge := rfl
@[simp] theorem clearErrors_bufEpoch (s : State) : (clearErrors s).bufEpoch = s.bufEpoch := rfl

@[simp] theorem arm_params (v : Word) (s : State) : (arm v s).params = s.params := rfl
@[simp] theorem arm_highTicks (v : Word) (s : State) : (arm v s).highTicks = s.highTicks := rfl
@[simp] theorem arm_lowTicks (v : Word) (s : State) : (arm v s).lowTicks = s.lowTicks := rfl
@[simp] theorem arm_trigHighClocks (v : Word) (s : State) : (arm v s).trigHighClocks = s.trigHighClocks := rfl
@[simp] theorem arm_cycleLimitClocks (v : Word) (s : State) : (arm v s).cycleLimitClocks = s.cycleLimitClocks := rfl
@[simp] theorem arm_clockCount (v : Word) (s : State) : (arm v s).clockCount = s.clockCount := rfl
@[simp] theorem arm_clockPhase (v : Word) (s : State) : (arm v s).clockPhase = s.clockPhase := rfl
@[simp] theorem arm_sampleReadyFlag (v : Word) (s : State) : (arm v s).sampleReadyFlag = s.sampleReadyFlag := rfl
@[simp] theorem arm_readThresholdClock (v : Word) (s : State) : (arm v s).readThresholdClock = s.readThresholdClock := rfl
@[simp] theorem arm_buf (v : Word) (s : State) : (arm v s).buf = s.buf := rfl
@[simp] theorem arm_cursor (v : Word) (s : State) : (arm v s).cursor = s.cursor := rfl
@[simp] theorem arm_armed (v : Word) (s : State) : (arm v s).armed = true := rfl
@[simp] theorem arm_tickCount (v : Word) (s : State) : (arm v s).tickCount = 0 := rfl
@[simp] theorem arm_tickCompare (v : Word) (s : State) : (arm v s).tickCompare = v := rfl
@[simp] theorem arm_state (v : Word) (s : State) : (arm v s).state = s.state := rfl
@[simp] theorem arm_adcPending (v : Word) (s : State) : (arm v s).adcPending = s.adcPending := rfl
@[simp] theorem arm_overrunFlag (v : Word) (s : State) : (arm v s).overrunFlag = s.overrunFlag := rfl
@[simp] theorem arm_timeoutFlag (v : Word) (s : State) : (arm v s).timeoutFlag = s.timeoutFlag := rfl
@[simp] theorem arm_capErrFlag (v : Word) (s : State) : (arm v s).capErrFlag = s.capErrFlag := rfl
@[simp] theorem arm_cfgErrFlag (v : Word) (s : State) : (arm v s).cfgErrFlag = s.cfgErrFlag := rfl
@[simp] theorem arm_clkOut (v : Word) (s : State) : (arm v s).clkOut = s.clkOut := rfl
@[simp] theorem arm_trigOut (v : Word) (s : State) : (arm v s).trigOut = s.trigOut := rfl
@[simp] theorem arm_adcStart (v : Word) (s : State) : (arm v s).adcStart = s.adcStart := rfl
@[simp] theorem arm_resp (v : Word) (s : State) : (arm v s).resp = s.resp := rfl
@[simp] theorem arm_inputs (v : Word) (s : State) : (arm v s).inputs = s.inputs := rfl
@[simp] theorem arm_edge (v : Word) (s : State) : (arm v s).edge = s.edge := rfl
@[simp] theorem arm_bufEpoch (v : Word) (s : State) : (arm v s).bufEpoch = s.bufEpoch := rfl

@[simp] theorem disarm_params (s : State) : (disarm s).params = s.params := rfl
@[simp] theorem disarm_highTicks (s : State) : (disarm s).highTicks = s.highTicks := rfl
@[simp] theorem disarm_lowTicks (s : State) : (disarm s).lowTicks = s.lowTicks := rfl
@[simp] theorem disarm_trigHighClocks (s : State) : (disarm s).trigHighClocks = s.trigHighClocks := rfl
@[simp] theorem disarm_cycleLimitClocks (s : State) : (disarm s).cycleLimitClocks = s.cycleLimitClocks := rfl
@[simp] theorem disarm_clockCount (s : State) : (disarm s).clockCount = s.clockCount := rfl
@[simp] theorem disarm_clockPhase (s : State) : (disarm s).clockPhase = s.clockPhase := rfl
@[simp] theorem disarm_sampleReadyFlag (s : State) : (disarm s).sampleReadyFlag = s.sampleReadyFlag := rfl
@[simp] theorem disarm_readThresholdClock (s : State) : (disarm s).readThresholdClock = s.readThresholdClock := rfl
@[simp] theorem disarm_buf (s : State) : (disarm s).buf = s.buf := rfl
@[simp] theorem disarm_cursor (s : State) : (disarm s).cursor = s.cursor := rfl
@[simp] theorem disarm_armed (s : State) : (disarm s).armed = false := rfl
@[simp] theorem disarm_tickCount (s : State) : (disarm s).tickCount = s.tickCount := rfl
@[simp] theorem disarm_tickCompare (s : State) : (disarm s).tickCompare = s.tickCompare := rfl
@[simp] theorem disarm_state (s : State) : (disarm s).state = s.state := rfl
@[simp] theorem disarm_adcPending (s : State) : (disarm s).adcPending = s.adcPending := rfl
@[simp] theorem disarm_overrunFlag (s : State) : (disarm s).overrunFlag = s.overrunFlag := rfl
@[simp] theorem disarm_timeoutFlag (s : State) : (disarm s).timeoutFlag = s.timeoutFlag := rfl
@[simp] theorem disarm_capErrFlag (s : State) : (disarm s).capErrFlag = s.capErrFlag := rfl
@[simp] theorem disarm_cfgErrFlag (s : State) : (disarm s).cfgErrFlag = s.cfgErrFlag := rfl
@[simp] theorem disarm_clkOut (s : State) : (disarm s).clkOut = s.clkOut := rfl
@[simp] theorem disarm_trigOut (s : State) : (disarm s).trigOut = s.trigOut := rfl
@[simp] theorem disarm_adcStart (s : State) : (disarm s).adcStart = s.adcStart := rfl
@[simp] theorem disarm_resp (s : State) : (disarm s).resp = s.resp := rfl
@[simp] theorem disarm_inputs (s : State) : (disarm s).inputs = s.inputs := rfl
@[simp] theorem disarm_edge (s : State) : (disarm s).edge = s.edge := rfl
@[simp] theorem disarm_bufEpoch (s : State) : (disarm s).bufEpoch = s.bufEpoch := rfl

@[simp] theorem tickAdvance_params (s : State) : (tickAdvance s).params = s.params := rfl
@[simp] theorem tickAdvance_highTicks (s : State) : (tickAdvance s).highTicks = s.highTicks := rfl
@[simp] theorem tickAdvance_lowTicks (s : State) : (tickAdvance s).lowTicks = s.lowTicks := rfl
@[simp] theorem tickAdvance_trigHighClocks (s : State) : (tickAdvance s).trigHighClocks = s.trigHighClocks := rfl
@[simp] theorem tickAdvance_cycleLimitClocks (s : State) : (tickAdvance s).cycleLimitClocks = s.cycleLimitClocks := rfl
@[simp] theorem tickAdvance_clockCount (s : State) : (tickAdvance s).clockCount = s.clockCount := rfl
@[simp] theorem tickAdvance_clockPhase (s : State) : (tickAdvance s).clockPhase = s.clockPhase := rfl
@[simp] theorem tickAdvance_sampleReadyFlag (s : State) : (tickAdvance s).sampleReadyFlag = s.sampleReadyFlag := rfl
@[simp] theorem tickAdvance_readThresholdClock (s : State) : (tickAdvance s).readThresholdClock = s.readThresholdClock := rfl
@[simp] theorem tickAdvance_buf (s : State) : (tickAdvance s).buf = s.buf := rfl
@[simp] theorem tickAdvance_cursor (s : State) : (tickAdvance s).cursor = s.cursor := rfl
@[simp] theorem tickAdvance_armed (s : State) : (tickAdvance s).armed = s.armed := rfl
@[simp] theorem tickAdvance_tickCount (s : State) : (tickAdvance s).tickCount = s.tickCount + 1 := rfl
@[simp] theorem tickAdvance_tickCompare (s : State) : (tickAdvance s).tickCompare = s.tickCompare := rfl
@[simp] theorem tickAdvance_state (s : State) : (tickAdvance s).state = s.state := rfl
@[simp] theorem tickAdvance_adcPending (s : State) : (tickAdvance s).adcPending = s.adcPending := rfl
@[simp] theorem tickAdvance_overrunFlag (s : State) : (tickAdvance s).overrunFlag = s.overrunFlag := rfl
@[simp] theorem tickAdvance_timeoutFlag (s : State) : (tickAdvance s).timeoutFlag = s.timeoutFlag := rfl
@[simp] theorem tickAdvance_capErrFlag (s : State) : (tickAdvance s).capErrFlag = s.capErrFlag := rfl
@[simp] theorem tickAdvance_cfgErrFlag (s : State) : (tickAdvance s).cfgErrFlag = s.cfgErrFlag := rfl
@[simp] theorem tickAdvance_clkOut (s : State) : (tickAdvance s).clkOut = s.clkOut := rfl
@[simp] theorem tickAdvance_trigOut (s : State) : (tickAdvance s).trigOut = s.trigOut := rfl
@[simp] theorem tickAdvance_adcStart (s : State) : (tickAdvance s).adcStart = s.adcStart := rfl
@[simp] theorem tickAdvance_resp (s : State) : (tickAdvance s).resp = s.resp := rfl
@[simp] theorem tickAdvance_inputs (s : State) : (tickAdvance s).inputs = s.inputs := rfl
@[simp] theorem tickAdvance_edge (s : State) : (tickAdvance s).edge = s.edge := rfl
@[simp] theorem tickAdvance_bufEpoch (s : State) : (tickAdvance s).bufEpoch = s.bufEpoch := rfl

@[simp] theorem rearm_params (v : Word) (s : State) : (rearm v s).params = s.params := rfl
@[simp] theorem rearm_highTicks (v : Word) (s : State) : (rearm v s).highTicks = s.highTicks := rfl
@[simp] theorem rearm_lowTicks (v : Word) (s : State) : (rearm v s).lowTicks = s.lowTicks := rfl
@[simp] theorem rearm_trigHighClocks (v : Word) (s : State) : (rearm v s).trigHighClocks = s.trigHighClocks := rfl
@[simp] theorem rearm_cycleLimitClocks (v : Word) (s : State) : (rearm v s).cycleLimitClocks = s.cycleLimitClocks := rfl
@[simp] theorem rearm_clockCount (v : Word) (s : State) : (rearm v s).clockCount = s.clockCount := rfl
@[simp] theorem rearm_clockPhase (v : Word) (s : State) : (rearm v s).clockPhase = s.clockPhase := rfl
@[simp] theorem rearm_sampleReadyFlag (v : Word) (s : State) : (rearm v s).sampleReadyFlag = s.sampleReadyFlag := rfl
@[simp] theorem rearm_readThresholdClock (v : Word) (s : State) : (rearm v s).readThresholdClock = s.readThresholdClock := rfl
@[simp] theorem rearm_buf (v : Word) (s : State) : (rearm v s).buf = s.buf := rfl
@[simp] theorem rearm_cursor (v : Word) (s : State) : (rearm v s).cursor = s.cursor := rfl
@[simp] theorem rearm_armed (v : Word) (s : State) : (rearm v s).armed = s.armed := rfl
@[simp] theorem rearm_tickCount (v : Word) (s : State) : (rearm v s).tickCount = 0 := rfl
@[simp] theorem rearm_tickCompare (v : Word) (s : State) : (rearm v s).tickCompare = v := rfl
@[simp] theorem rearm_state (v : Word) (s : State) : (rearm v s).state = s.state := rfl
@[simp] theorem rearm_adcPending (v : Word) (s : State) : (rearm v s).adcPending = s.adcPending := rfl
@[simp] theorem rearm_overrunFlag (v : Word) (s : State) : (rearm v s).overrunFlag = s.overrunFlag := rfl
@[simp] theorem rearm_timeoutFlag (v : Word) (s : State) : (rearm v s).timeoutFlag = s.timeoutFlag := rfl
@[simp] theorem rearm_capErrFlag (v : Word) (s : State) : (rearm v s).capErrFlag = s.capErrFlag := rfl
@[simp] theorem rearm_cfgErrFlag (v : Word) (s : State) : (rearm v s).cfgErrFlag = s.cfgErrFlag := rfl
@[simp] theorem rearm_clkOut (v : Word) (s : State) : (rearm v s).clkOut = s.clkOut := rfl
@[simp] theorem rearm_trigOut (v : Word) (s : State) : (rearm v s).trigOut = s.trigOut := rfl
@[simp] theorem rearm_adcStart (v : Word) (s : State) : (rearm v s).adcStart = s.adcStart := rfl
@[simp] theorem rearm_resp (v : Word) (s : State) : (rearm v s).resp = s.resp := rfl
@[simp] theorem rearm_inputs (v : Word) (s : State) : (rearm v s).inputs = s.inputs := rfl
@[simp] theorem rearm_edge (v : Word) (s : State) : (rearm v s).edge = s.edge := rfl
@[simp] theorem rearm_bufEpoch (v : Word) (s : State) : (rearm v s).bufEpoch = s.bufEpoch := rfl

@[simp] theorem fireRise_params (s : State) : (fireRise s).params = s.params := rfl
@[simp] theorem fireRise_highTicks (s : State) : (fireRise s).highTicks = s.highTicks := rfl
@[simp] theorem fireRise_lowTicks (s : State) : (fireRise s).lowTicks = s.lowTicks := rfl
@[simp] theorem fireRise_trigHighClocks (s : State) : (fireRise s).trigHighClocks = s.trigHighClocks := rfl
@[simp] theorem fireRise_cycleLimitClocks (s : State) : (fireRise s).cycleLimitClocks = s.cycleLimitClocks := rfl
@[simp] theorem fireRise_clockCount (s : State) : (fireRise s).clockCount = s.clockCount := rfl
@[simp] theorem fireRise_clockPhase (s : State) : (fireRise s).clockPhase = .high := rfl
@[simp] theorem fireRise_sampleReadyFlag (s : State) : (fireRise s).sampleReadyFlag = s.sampleReadyFlag := rfl
@[simp] theorem fireRise_readThresholdClock (s : State) : (fireRise s).readThresholdClock = s.readThresholdClock := rfl
@[simp] theorem fireRise_buf (s : State) : (fireRise s).buf = s.buf := rfl
@[simp] theorem fireRise_cursor (s : State) : (fireRise s).cursor = s.cursor := rfl
@[simp] theorem fireRise_armed (s : State) : (fireRise s).armed = s.armed := rfl
@[simp] theorem fireRise_tickCount (s : State) : (fireRise s).tickCount = 0 := rfl
@[simp] theorem fireRise_tickCompare (s : State) : (fireRise s).tickCompare = s.highTicks := rfl
@[simp] theorem fireRise_state (s : State) : (fireRise s).state = s.state := rfl
@[simp] theorem fireRise_adcPending (s : State) : (fireRise s).adcPending = s.adcPending := rfl
@[simp] theorem fireRise_overrunFlag (s : State) : (fireRise s).overrunFlag = s.overrunFlag := rfl
@[simp] theorem fireRise_timeoutFlag (s : State) : (fireRise s).timeoutFlag = s.timeoutFlag := rfl
@[simp] theorem fireRise_capErrFlag (s : State) : (fireRise s).capErrFlag = s.capErrFlag := rfl
@[simp] theorem fireRise_cfgErrFlag (s : State) : (fireRise s).cfgErrFlag = s.cfgErrFlag := rfl
@[simp] theorem fireRise_clkOut (s : State) : (fireRise s).clkOut = true := rfl
@[simp] theorem fireRise_trigOut (s : State) : (fireRise s).trigOut = trigAfterRise s := rfl
@[simp] theorem fireRise_adcStart (s : State) : (fireRise s).adcStart = s.adcStart := rfl
@[simp] theorem fireRise_resp (s : State) : (fireRise s).resp = s.resp := rfl
@[simp] theorem fireRise_inputs (s : State) : (fireRise s).inputs = s.inputs := rfl
@[simp] theorem fireRise_edge (s : State) : (fireRise s).edge = s.edge := rfl
@[simp] theorem fireRise_bufEpoch (s : State) : (fireRise s).bufEpoch = s.bufEpoch := rfl

@[simp] theorem bufReset_params (s : State) : (bufReset s).params = s.params := rfl
@[simp] theorem bufReset_highTicks (s : State) : (bufReset s).highTicks = s.highTicks := rfl
@[simp] theorem bufReset_lowTicks (s : State) : (bufReset s).lowTicks = s.lowTicks := rfl
@[simp] theorem bufReset_trigHighClocks (s : State) : (bufReset s).trigHighClocks = s.trigHighClocks := rfl
@[simp] theorem bufReset_cycleLimitClocks (s : State) : (bufReset s).cycleLimitClocks = s.cycleLimitClocks := rfl
@[simp] theorem bufReset_clockCount (s : State) : (bufReset s).clockCount = s.clockCount := rfl
@[simp] theorem bufReset_clockPhase (s : State) : (bufReset s).clockPhase = s.clockPhase := rfl
@[simp] theorem bufReset_sampleReadyFlag (s : State) : (bufReset s).sampleReadyFlag = s.sampleReadyFlag := rfl
@[simp] theorem bufReset_readThresholdClock (s : State) : (bufReset s).readThresholdClock = s.readThresholdClock := rfl
@[simp] theorem bufReset_buf (s : State) : (bufReset s).buf = s.buf := rfl
@[simp] theorem bufReset_cursor (s : State) : (bufReset s).cursor = 0 := rfl
@[simp] theorem bufReset_armed (s : State) : (bufReset s).armed = s.armed := rfl
@[simp] theorem bufReset_tickCount (s : State) : (bufReset s).tickCount = s.tickCount := rfl
@[simp] theorem bufReset_tickCompare (s : State) : (bufReset s).tickCompare = s.tickCompare := rfl
@[simp] theorem bufReset_state (s : State) : (bufReset s).state = s.state := rfl
@[simp] theorem bufReset_adcPending (s : State) : (bufReset s).adcPending = s.adcPending := rfl
@[simp] theorem bufReset_overrunFlag (s : State) : (bufReset s).overrunFlag = s.overrunFlag := rfl
@[simp] theorem bufReset_timeoutFlag (s : State) : (bufReset s).timeoutFlag = s.timeoutFlag := rfl
@[simp] theorem bufReset_capErrFlag (s : State) : (bufReset s).capErrFlag = s.capErrFlag := rfl
@[simp] theorem bufReset_cfgErrFlag (s : State) : (bufReset s).cfgErrFlag = s.cfgErrFlag := rfl
@[simp] theorem bufReset_clkOut (s : State) : (bufReset s).clkOut = s.clkOut := rfl
@[simp] theorem bufReset_trigOut (s : State) : (bufReset s).trigOut = s.trigOut := rfl
@[simp] theorem bufReset_adcStart (s : State) : (bufReset s).adcStart = s.adcStart := rfl
@[simp] theorem bufReset_resp (s : State) : (bufReset s).resp = s.resp := rfl
@[simp] theorem bufReset_inputs (s : State) : (bufReset s).inputs = s.inputs := rfl
@[simp] theorem bufReset_edge (s : State) : (bufReset s).edge = s.edge := rfl
@[simp] theorem bufReset_bufEpoch (s : State) : (bufReset s).bufEpoch = s.bufEpoch := rfl

@[simp] theorem beginCycle_params (s : State) : (beginCycle s).params = s.params := rfl
@[simp] theorem beginCycle_highTicks (s : State) : (beginCycle s).highTicks = s.highTicks := rfl
@[simp] theorem beginCycle_lowTicks (s : State) : (beginCycle s).lowTicks = s.lowTicks := rfl
@[simp] theorem beginCycle_trigHighClocks (s : State) : (beginCycle s).trigHighClocks = s.trigHighClocks := rfl
@[simp] theorem beginCycle_cycleLimitClocks (s : State) : (beginCycle s).cycleLimitClocks = s.cycleLimitClocks := rfl
@[simp] theorem beginCycle_clockCount (s : State) : (beginCycle s).clockCount = 0 := rfl
@[simp] theorem beginCycle_clockPhase (s : State) : (beginCycle s).clockPhase = .low := rfl
@[simp] theorem beginCycle_sampleReadyFlag (s : State) : (beginCycle s).sampleReadyFlag = false := rfl
@[simp] theorem beginCycle_readThresholdClock (s : State) : (beginCycle s).readThresholdClock = thresholdOf s := rfl
@[simp] theorem beginCycle_buf (s : State) : (beginCycle s).buf = s.buf := rfl
@[simp] theorem beginCycle_cursor (s : State) : (beginCycle s).cursor = 0 := rfl
@[simp] theorem beginCycle_armed (s : State) : (beginCycle s).armed = true := rfl
@[simp] theorem beginCycle_tickCount (s : State) : (beginCycle s).tickCount = 0 := rfl
@[simp] theorem beginCycle_tickCompare (s : State) : (beginCycle s).tickCompare = s.lowTicks := rfl
@[simp] theorem beginCycle_state (s : State) : (beginCycle s).state = .priming := rfl
@[simp] theorem beginCycle_adcPending (s : State) : (beginCycle s).adcPending = false := rfl
@[simp] theorem beginCycle_overrunFlag (s : State) : (beginCycle s).overrunFlag = s.overrunFlag := rfl
@[simp] theorem beginCycle_timeoutFlag (s : State) : (beginCycle s).timeoutFlag = s.timeoutFlag := rfl
@[simp] theorem beginCycle_capErrFlag (s : State) : (beginCycle s).capErrFlag = s.capErrFlag := rfl
@[simp] theorem beginCycle_cfgErrFlag (s : State) : (beginCycle s).cfgErrFlag = s.cfgErrFlag := rfl
@[simp] theorem beginCycle_clkOut (s : State) : (beginCycle s).clkOut = true := rfl
@[simp] theorem beginCycle_trigOut (s : State) : (beginCycle s).trigOut = false := rfl
@[simp] theorem beginCycle_adcStart (s : State) : (beginCycle s).adcStart = false := rfl
@[simp] theorem beginCycle_resp (s : State) : (beginCycle s).resp = s.resp := rfl
@[simp] theorem beginCycle_inputs (s : State) : (beginCycle s).inputs = s.inputs := rfl
@[simp] theorem beginCycle_edge (s : State) : (beginCycle s).edge = s.edge := rfl
@[simp] theorem beginCycle_bufEpoch (s : State) : (beginCycle s).bufEpoch = s.bufEpoch := rfl

@[simp] theorem terminate_params (st : CycleState) (s : State) : (terminate st s).params = s.params := rfl
@[simp] theorem terminate_highTicks (st : CycleState) (s : State) : (terminate st s).highTicks = s.highTicks := rfl
@[simp] theorem terminate_lowTicks (st : CycleState) (s : State) : (terminate st s).lowTicks = s.lowTicks := rfl
@[simp] theorem terminate_trigHighClocks (st : CycleState) (s : State) : (terminate st s).trigHighClocks = s.trigHighClocks := rfl
@[simp] theorem terminate_cycleLimitClocks (st : CycleState) (s : State) : (terminate st s).cycleLimitClocks = s.cycleLimitClocks := rfl
@[simp] theorem terminate_clockCount (st : CycleState) (s : State) : (terminate st s).clockCount = s.clockCount := rfl
@[simp] theorem terminate_clockPhase (st : CycleState) (s : State) : (terminate st s).clockPhase = s.clockPhase := rfl
@[simp] theorem terminate_sampleReadyFlag (st : CycleState) (s : State) : (terminate st s).sampleReadyFlag = s.sampleReadyFlag := rfl
@[simp] theorem terminate_readThresholdClock (st : CycleState) (s : State) : (terminate st s).readThresholdClock = s.readThresholdClock := rfl
@[simp] theorem terminate_buf (st : CycleState) (s : State) : (terminate st s).buf = s.buf := rfl
@[simp] theorem terminate_cursor (st : CycleState) (s : State) : (terminate st s).cursor = s.cursor := rfl
@[simp] theorem terminate_armed (st : CycleState) (s : State) : (terminate st s).armed = false := rfl
@[simp] theorem terminate_tickCount (st : CycleState) (s : State) : (terminate st s).tickCount = s.tickCount := rfl
@[simp] theorem terminate_tickCompare (st : CycleState) (s : State) : (terminate st s).tickCompare = s.tickCompare := rfl
@[simp] theorem terminate_state (st : CycleState) (s : State) : (terminate st s).state = st := rfl
@[simp] theorem terminate_adcPending (st : CycleState) (s : State) : (terminate st s).adcPending = false := rfl
@[simp] theorem terminate_overrunFlag (st : CycleState) (s : State) : (terminate st s).overrunFlag = s.overrunFlag := rfl
@[simp] theorem terminate_timeoutFlag (st : CycleState) (s : State) : (terminate st s).timeoutFlag = s.timeoutFlag := rfl
@[simp] theorem terminate_capErrFlag (st : CycleState) (s : State) : (terminate st s).capErrFlag = s.capErrFlag := rfl
@[simp] theorem terminate_cfgErrFlag (st : CycleState) (s : State) : (terminate st s).cfgErrFlag = s.cfgErrFlag := rfl
@[simp] theorem terminate_clkOut (st : CycleState) (s : State) : (terminate st s).clkOut = true := rfl
@[simp] theorem terminate_trigOut (st : CycleState) (s : State) : (terminate st s).trigOut = false := rfl
@[simp] theorem terminate_adcStart (st : CycleState) (s : State) : (terminate st s).adcStart = false := rfl
@[simp] theorem terminate_resp (st : CycleState) (s : State) : (terminate st s).resp = s.resp := rfl
@[simp] theorem terminate_inputs (st : CycleState) (s : State) : (terminate st s).inputs = s.inputs := rfl
@[simp] theorem terminate_edge (st : CycleState) (s : State) : (terminate st s).edge = s.edge := rfl
@[simp] theorem terminate_bufEpoch (st : CycleState) (s : State) : (terminate st s).bufEpoch = s.bufEpoch := rfl

@[simp] theorem rdConsume_params (s : State) : (rdConsume s).params = s.params := rfl
@[simp] theorem rdConsume_highTicks (s : State) : (rdConsume s).highTicks = s.highTicks := rfl
@[simp] theorem rdConsume_lowTicks (s : State) : (rdConsume s).lowTicks = s.lowTicks := rfl
@[simp] theorem rdConsume_trigHighClocks (s : State) : (rdConsume s).trigHighClocks = s.trigHighClocks := rfl
@[simp] theorem rdConsume_cycleLimitClocks (s : State) : (rdConsume s).cycleLimitClocks = s.cycleLimitClocks := rfl
@[simp] theorem rdConsume_clockCount (s : State) : (rdConsume s).clockCount = s.clockCount := rfl
@[simp] theorem rdConsume_clockPhase (s : State) : (rdConsume s).clockPhase = s.clockPhase := rfl
@[simp] theorem rdConsume_sampleReadyFlag (s : State) : (rdConsume s).sampleReadyFlag = false := rfl
@[simp] theorem rdConsume_readThresholdClock (s : State) : (rdConsume s).readThresholdClock = s.readThresholdClock := rfl
@[simp] theorem rdConsume_buf (s : State) : (rdConsume s).buf = s.buf := rfl
@[simp] theorem rdConsume_cursor (s : State) : (rdConsume s).cursor = s.cursor := rfl
@[simp] theorem rdConsume_armed (s : State) : (rdConsume s).armed = s.armed := rfl
@[simp] theorem rdConsume_tickCount (s : State) : (rdConsume s).tickCount = s.tickCount := rfl
@[simp] theorem rdConsume_tickCompare (s : State) : (rdConsume s).tickCompare = s.tickCompare := rfl
@[simp] theorem rdConsume_state (s : State) : (rdConsume s).state = s.state := rfl
@[simp] theorem rdConsume_adcPending (s : State) : (rdConsume s).adcPending = true := rfl
@[simp] theorem rdConsume_overrunFlag (s : State) : (rdConsume s).overrunFlag = s.overrunFlag := rfl
@[simp] theorem rdConsume_timeoutFlag (s : State) : (rdConsume s).timeoutFlag = s.timeoutFlag := rfl
@[simp] theorem rdConsume_capErrFlag (s : State) : (rdConsume s).capErrFlag = s.capErrFlag := rfl
@[simp] theorem rdConsume_cfgErrFlag (s : State) : (rdConsume s).cfgErrFlag = s.cfgErrFlag := rfl
@[simp] theorem rdConsume_clkOut (s : State) : (rdConsume s).clkOut = s.clkOut := rfl
@[simp] theorem rdConsume_trigOut (s : State) : (rdConsume s).trigOut = s.trigOut := rfl
@[simp] theorem rdConsume_adcStart (s : State) : (rdConsume s).adcStart = true := rfl
@[simp] theorem rdConsume_resp (s : State) : (rdConsume s).resp = s.resp := rfl
@[simp] theorem rdConsume_inputs (s : State) : (rdConsume s).inputs = s.inputs := rfl
@[simp] theorem rdConsume_edge (s : State) : (rdConsume s).edge = s.edge := rfl
@[simp] theorem rdConsume_bufEpoch (s : State) : (rdConsume s).bufEpoch = s.bufEpoch := rfl

@[simp] theorem rdWait_params (s : State) : (rdWait s).params = s.params := rfl
@[simp] theorem rdWait_highTicks (s : State) : (rdWait s).highTicks = s.highTicks := rfl
@[simp] theorem rdWait_lowTicks (s : State) : (rdWait s).lowTicks = s.lowTicks := rfl
@[simp] theorem rdWait_trigHighClocks (s : State) : (rdWait s).trigHighClocks = s.trigHighClocks := rfl
@[simp] theorem rdWait_cycleLimitClocks (s : State) : (rdWait s).cycleLimitClocks = s.cycleLimitClocks := rfl
@[simp] theorem rdWait_clockCount (s : State) : (rdWait s).clockCount = s.clockCount := rfl
@[simp] theorem rdWait_clockPhase (s : State) : (rdWait s).clockPhase = s.clockPhase := rfl
@[simp] theorem rdWait_sampleReadyFlag (s : State) : (rdWait s).sampleReadyFlag = s.sampleReadyFlag := rfl
@[simp] theorem rdWait_readThresholdClock (s : State) : (rdWait s).readThresholdClock = s.readThresholdClock := rfl
@[simp] theorem rdWait_buf (s : State) : (rdWait s).buf = s.buf := rfl
@[simp] theorem rdWait_cursor (s : State) : (rdWait s).cursor = s.cursor := rfl
@[simp] theorem rdWait_armed (s : State) : (rdWait s).armed = s.armed := rfl
@[simp] theorem rdWait_tickCount (s : State) : (rdWait s).tickCount = s.tickCount := rfl
@[simp] theorem rdWait_tickCompare (s : State) : (rdWait s).tickCompare = s.tickCompare := rfl
@[simp] theorem rdWait_state (s : State) : (rdWait s).state = s.state := rfl
@[simp] theorem rdWait_adcPending (s : State) : (rdWait s).adcPending = s.adcPending := rfl
@[simp] theorem rdWait_overrunFlag (s : State) : (rdWait s).overrunFlag = s.overrunFlag := rfl
@[simp] theorem rdWait_timeoutFlag (s : State) : (rdWait s).timeoutFlag = s.timeoutFlag := rfl
@[simp] theorem rdWait_capErrFlag (s : State) : (rdWait s).capErrFlag = s.capErrFlag := rfl
@[simp] theorem rdWait_cfgErrFlag (s : State) : (rdWait s).cfgErrFlag = s.cfgErrFlag := rfl
@[simp] theorem rdWait_clkOut (s : State) : (rdWait s).clkOut = s.clkOut := rfl
@[simp] theorem rdWait_trigOut (s : State) : (rdWait s).trigOut = s.trigOut := rfl
@[simp] theorem rdWait_adcStart (s : State) : (rdWait s).adcStart = false := rfl
@[simp] theorem rdWait_resp (s : State) : (rdWait s).resp = s.resp := rfl
@[simp] theorem rdWait_inputs (s : State) : (rdWait s).inputs = s.inputs := rfl
@[simp] theorem rdWait_edge (s : State) : (rdWait s).edge = s.edge := rfl
@[simp] theorem rdWait_bufEpoch (s : State) : (rdWait s).bufEpoch = s.bufEpoch := rfl

@[simp] theorem raiseError_params (e : ErrorKind) (s : State) : (raiseError e s).params = s.params := by cases e <;> rfl
@[simp] theorem raiseError_highTicks (e : ErrorKind) (s : State) : (raiseError e s).highTicks = s.highTicks := by cases e <;> rfl
@[simp] theorem raiseError_lowTicks (e : ErrorKind) (s : State) : (raiseError e s).lowTicks = s.lowTicks := by cases e <;> rfl
@[simp] theorem raiseError_trigHighClocks (e : ErrorKind) (s : State) : (raiseError e s).trigHighClocks = s.trigHighClocks := by cases e <;> rfl
@[simp] theorem raiseError_cycleLimitClocks (e : ErrorKind) (s : State) : (raiseError e s).cycleLimitClocks = s.cycleLimitClocks := by cases e <;> rfl
@[simp] theorem raiseError_clockCount (e : ErrorKind) (s : State) : (raiseError e s).clockCount = s.clockCount := by cases e <;> rfl
@[simp] theorem raiseError_clockPhase (e : ErrorKind) (s : State) : (raiseError e s).clockPhase = s.clockPhase := by cases e <;> rfl
@[simp] theorem raiseError_sampleReadyFlag (e : ErrorKind) (s : State) : (raiseError e s).sampleReadyFlag = s.sampleReadyFlag := by cases e <;> rfl
@[simp] theorem raiseError_readThresholdClock (e : ErrorKind) (s : State) : (raiseError e s).readThresholdClock = s.readThresholdClock := by cases e <;> rfl
@[simp] theorem raiseError_buf (e : ErrorKind) (s : State) : (raiseError e s).buf = s.buf := by cases e <;> rfl
@[simp] theorem raiseError_cursor (e : ErrorKind) (s : State) : (raiseError e s).cursor = s.cursor := by cases e <;> rfl
@[simp] theorem raiseError_armed (e : ErrorKind) (s : State) : (raiseError e s).armed = s.armed := by cases e <;> rfl
@[simp] theorem raiseError_tickCount (e : ErrorKind) (s : State) : (raiseError e s).tickCount = s.tickCount := by cases e <;> rfl
@[simp] theorem raiseError_tickCompare (e : ErrorKind) (s : State) : (raiseError e s).tickCompare = s.tickCompare := by cases e <;> rfl
@[simp] theorem raiseError_state (e : ErrorKind) (s : State) : (raiseError e s).state = s.state := by cases e <;> rfl
@[simp] theorem raiseError_adcPending (e : ErrorKind) (s : State) : (raiseError e s).adcPending = s.adcPending := by cases e <;> rfl
@[simp] theorem raiseError_clkOut (e : ErrorKind) (s : State) : (raiseError e s).clkOut = s.clkOut := by cases e <;> rfl
@[simp] theorem raiseError_trigOut (e : ErrorKind) (s : State) : (raiseError e s).trigOut = s.trigOut := by cases e <;> rfl
@[simp] theorem raiseError_adcStart (e : ErrorKind) (s : State) : (raiseError e s).adcStart = s.adcStart := by cases e <;> rfl
@[simp] theorem raiseError_resp (e : ErrorKind) (s : State) : (raiseError e s).resp = s.resp := by cases e <;> rfl
@[simp] theorem raiseError_inputs (e : ErrorKind) (s : State) : (raiseError e s).inputs = s.inputs := by cases e <;> rfl
@[simp] theorem raiseError_edge (e : ErrorKind) (s : State) : (raiseError e s).edge = s.edge := by cases e <;> rfl
@[simp] theorem raiseError_bufEpoch (e : ErrorKind) (s : State) : (raiseError e s).bufEpoch = s.bufEpoch := by cases e <;> rfl

end Sys2Proof.Machine
end

