-- ==== Sys2Proof/Laws/Ops.lean ====
section
/-! SUPPORT. For each shared operation one lemma that says once everything it can do; later proofs cite it and do not unfold. -/

namespace Sys2Proof.Machine

theorem hostWrite_busy (f : State → State) {s : State} (h : busy s.state = true) : hostWrite f s = refuse s := by
  simp [hostWrite, h]

theorem hostWrite_idle (f : State → State) {s : State} (h : busy s.state = false) :
    hostWrite f s = respond 0 false (f s) := by
  simp [hostWrite, h]

/-- `SyncEval` does one of three things (R130). -/
theorem syncEval_cases (s : State) :
    (s.clockCount.toNat < s.readThresholdClock.toNat ∧ syncEval s = s) ∨
    (s.readThresholdClock.toNat ≤ s.clockCount.toNat ∧
      syncEval s = { s with
        sampleReadyFlag := true
        overrunFlag := s.overrunFlag || s.sampleReadyFlag
        state := if s.state = .integrating then .reading else s.state }) := by
  by_cases h : s.readThresholdClock.toNat ≤ s.clockCount.toNat
  · right
    refine ⟨h, ?_⟩
    cases hs : s.state <;> cases hr : s.sampleReadyFlag <;>
      simp [syncEval, thresholdReached, enterReading, raiseError, h, hs, hr]
  · left
    exact ⟨by omega, by simp [syncEval, thresholdReached, h]⟩

/-- Step 3 of FIRE_FALL either records the timeout or counts and asks the synchronizer (R112). -/
theorem completePeriod_cases (s : State) :
    (s.clockCount = s.cycleLimitClocks ∧ completePeriod s = { s with timeoutFlag := true }) ∨
    (s.clockCount ≠ s.cycleLimitClocks ∧ completePeriod s = syncEval { s with clockCount := s.clockCount + 1 }) := by
  by_cases h : s.clockCount = s.cycleLimitClocks
  · exact .inl ⟨h, by simp [completePeriod, h, raiseError]⟩
  · exact .inr ⟨h, by simp [completePeriod, h]⟩

/-- FIRE_FALL does one of three things: time out, count below the threshold, count at or above it (R112, R130). -/
theorem fireFall_cases (s : State) :
    (s.clockCount = s.cycleLimitClocks ∧
      fireFall s = { s with clkOut := false, timeoutFlag := true, clockPhase := .low, tickCount := 0, tickCompare := s.lowTicks }) ∨
    (s.clockCount ≠ s.cycleLimitClocks ∧ (s.clockCount + 1).toNat < s.readThresholdClock.toNat ∧
      fireFall s = { s with
        clkOut := false, clockCount := s.clockCount + 1, clockPhase := .low, tickCount := 0, tickCompare := s.lowTicks }) ∨
    (s.clockCount ≠ s.cycleLimitClocks ∧ s.readThresholdClock.toNat ≤ (s.clockCount + 1).toNat ∧
      fireFall s = { s with
        clkOut := false
        clockCount := s.clockCount + 1
        sampleReadyFlag := true
        overrunFlag := s.overrunFlag || s.sampleReadyFlag
        state := if s.state = .integrating then .reading else s.state
        clockPhase := .low
        tickCount := 0
        tickCompare := s.lowTicks }) := by
  rcases completePeriod_cases { s with clkOut := false } with ⟨h, e⟩ | ⟨h, e⟩
  · exact .inl ⟨h, by simp only [fireFall, e]; rfl⟩
  · right
    rcases syncEval_cases { s with clkOut := false, clockCount := s.clockCount + 1 } with ⟨h', e'⟩ | ⟨h', e'⟩
    · exact .inl ⟨h, h', by simp only [fireFall, e, e']; rfl⟩
    · exact .inr ⟨h, h', by simp only [fireFall, e, e']; rfl⟩

/-- TICK's turn does one of four things: nothing, TICK_ADVANCE, FIRE_RISE, FIRE_FALL (R103, R110, R92). -/
theorem tickPhase_cases (s : State) :
    (s.armed = false ∧ tickPhase s = s) ∨
    (s.armed = true ∧ s.tickCount.toNat + 1 ≠ s.tickCompare.toNat ∧ tickPhase s = tickAdvance s) ∨
    (s.armed = true ∧ s.tickCount.toNat + 1 = s.tickCompare.toNat ∧ s.clockPhase = .low ∧
      tickPhase s = leavePriming (fireRise s)) ∨
    (s.armed = true ∧ s.tickCount.toNat + 1 = s.tickCompare.toNat ∧ s.clockPhase = .high ∧
      tickPhase s = leavePriming (fireFall s)) := by
  cases ha : s.armed
  · exact .inl ⟨rfl, by simp [tickPhase, ha]⟩
  · by_cases hc : s.tickCount.toNat + 1 = s.tickCompare.toNat
    · cases hp : s.clockPhase
      · exact .inr (.inr (.inl ⟨rfl, hc, rfl, by simp [tickPhase, ha, compareMatch, hc, fire, hp]⟩))
      · exact .inr (.inr (.inr ⟨rfl, hc, rfl, by simp [tickPhase, ha, compareMatch, hc, fire, hp]⟩))
    · exact .inr (.inl ⟨rfl, hc, by simp [tickPhase, ha, compareMatch, hc]⟩)

/-- `Push` either drops the sample or stores it at the cursor (R141). -/
theorem push_cases (v : Sample) (s : State) :
    (s.cursor.toNat = s.params.pixelCount ∧ push v s = { s with capErrFlag := true }) ∨
    (s.cursor.toNat ≠ s.params.pixelCount ∧
      push v s = { s with
        buf := s.buf.write s.cursor.toNat (truncateSample s.params.sampleBits v), cursor := s.cursor + 1 }) := by
  by_cases h : s.cursor.toNat = s.params.pixelCount
  · exact .inl ⟨h, by simp [push, isFull, h, raiseError]⟩
  · exact .inr ⟨h, by simp [push, isFull, h]⟩

/-- `Push`, the one operation that writes the sample memory (R145), keeps its canonical form. -/
theorem push_buf_wf (v : Sample) {s : State} (h : s.buf.wf) : (push v s).buf.wf := by
  rcases push_cases v s with ⟨_, e⟩ | ⟨_, e⟩ <;> rw [e]
  · exact h
  · exact Memory.write_wf h _ _

/-- The sample memory of the reset state, and of the state after any reset edge, is in canonical form. -/
theorem reset_buf_wf : State.reset.buf.wf := List.Pairwise.nil

theorem resetEdge_buf_wf (s : State) : (resetEdge s).buf.wf := List.Pairwise.nil

/-- READER's turn does one of four things, CYCLE_TIMEOUT, RD_PUSH, RD_CONSUME, RD_WAIT, chosen in that order (R154). -/
theorem readerPhase_cases (inp : PortSample) (s : State) :
    (s.timeoutFlag = true ∧ readerPhase inp s = terminate .idle s) ∨
    (s.timeoutFlag = false ∧ s.adcPending = true ∧ inp.adcDone = true ∧ readerPhase inp s = rdPush inp.adcData s) ∨
    (s.timeoutFlag = false ∧ s.adcPending = false ∧ s.sampleReadyFlag = true ∧ readerPhase inp s = rdConsume s) ∨
    (s.timeoutFlag = false ∧ ((s.adcPending = true ∧ inp.adcDone = false) ∨ (s.adcPending = false ∧ s.sampleReadyFlag = false)) ∧
      readerPhase inp s = rdWait s) := by
  cases ht : s.timeoutFlag <;> cases hp : s.adcPending <;> cases hd : inp.adcDone <;> cases hr : s.sampleReadyFlag <;>
    simp [readerPhase, cycleTimeout, ht, hp, hd, hr]

/-- `StartCmd` either records ConfigurationError and goes to IDLE, or begins a cycle (R151). -/
theorem startCmd_cases (s : State) :
    (configInvalid s = true ∧ startCmd s = { clearErrors s with cfgErrFlag := true, state := .idle }) ∨
    (configInvalid s = false ∧ startCmd s = beginCycle (clearErrors s)) := by
  have h : configInvalid (clearErrors s) = configInvalid s := rfl
  cases hc : configInvalid s
  · exact .inr ⟨rfl, by simp [startCmd, h, hc]⟩
  · exact .inl ⟨rfl, by simp [startCmd, h, hc, raiseError]⟩

/-- Every instruction completes: its turn is a next state. -/
theorem exec_next (i : Instr) (s : State) : ∃ w, exec i s = .next w := by
  cases i <;> exact ⟨_, rfl⟩

/-- Every edge is one of four things: reset, no transaction, an ILLEGAL word, an operation (R90). -/
theorem step_cases (s : State) :
    (presented s = .reset ∧ step s = .next (resetEdge s)) ∨
    (presented s = .hostNone ∧ step s = .next (finishEdge s (hostNone s))) ∨
    (∃ e, presented s = .illegal e ∧ step s = .next (finishEdge s (refuse s))) ∨
    (∃ i w, presented s = .op i ∧ exec i s = .next w ∧ step s = .next (finishEdge s w)) := by
  cases hp : presented s with
  | reset => exact .inl ⟨rfl, by simp [step, hp]⟩
  | hostNone => exact .inr (.inl ⟨rfl, by simp [step, hp]⟩)
  | illegal e => exact .inr (.inr (.inl ⟨e, rfl, by simp [step, hp, hostIllegal]⟩))
  | op i =>
    obtain ⟨w, hw⟩ := exec_next i s
    exact .inr (.inr (.inr ⟨i, w, rfl, hw, by simp [step, hp, hw]⟩))

/-- At a busy edge the HOST's turn changes only the response (R180). -/
theorem exec_busy {i : Instr} {s w : State} (hb : busy s.state = true) (h : exec i s = .next w) :
    ∃ r, w = { s with resp := some r } := by
  cases i <;>
    simp only [exec, execRdId, execRdCtrl, execRdStatus, execRdHighTicks, execRdLowTicks, execRdTrigHighClocks,
      execRdCycleLimitClocks, execRdClockCount, execRdReadThresholdLo, execRdReadThresholdHi, execRdCursor, execRdTickCount,
      execRdTickCompare, execRdPixelCount, execRdPipelineLatency, execRdBuf, execWrHighTicks, execWrLowTicks,
      execWrTrigHighClocks, execWrCycleLimitClocks, execStart, execWrCtrlNop, execWrRoId, execWrRoStatus, execWrRoClockCount,
      execWrRoReadThresholdLo, execWrRoReadThresholdHi, execWrRoCursor, execWrRoTickCount, execWrRoTickCompare,
      execWrRoPixelCount, execWrRoPipelineLatency, execWrBuf, hostWrite, hb, if_true, Host.Outcome.next.injEq] at h <;>
    subst h <;> first | exact ⟨_, rfl⟩ | (split <;> exact ⟨_, rfl⟩)

/-- At an edge that is not busy the HOST's turn answers, and stores a configuration register or runs `StartCmd` (R181, R93). -/
theorem exec_idle {i : Instr} {s w : State} (hb : busy s.state = false) (h : exec i s = .next w) :
    (∃ r, w = { s with resp := some r }) ∨
    (∃ v, i = .wrHighTicks v ∧ w = { s with highTicks := v, resp := some ⟨0, false⟩ }) ∨
    (∃ v, i = .wrLowTicks v ∧ w = { s with lowTicks := v, resp := some ⟨0, false⟩ }) ∨
    (∃ v, i = .wrTrigHighClocks v ∧ w = { s with trigHighClocks := v, resp := some ⟨0, false⟩ }) ∨
    (∃ v, i = .wrCycleLimitClocks v ∧ w = { s with cycleLimitClocks := v, resp := some ⟨0, false⟩ }) ∨
    (i = .start ∧ w = respond 0 false (startCmd s)) := by
  cases i
  case wrHighTicks v =>
    simp only [exec, execWrHighTicks, hostWrite_idle _ hb, Host.Outcome.next.injEq] at h
    exact .inr (.inl ⟨v, rfl, h.symm⟩)
  case wrLowTicks v =>
    simp only [exec, execWrLowTicks, hostWrite_idle _ hb, Host.Outcome.next.injEq] at h
    exact .inr (.inr (.inl ⟨v, rfl, h.symm⟩))
  case wrTrigHighClocks v =>
    simp only [exec, execWrTrigHighClocks, hostWrite_idle _ hb, Host.Outcome.next.injEq] at h
    exact .inr (.inr (.inr (.inl ⟨v, rfl, h.symm⟩)))
  case wrCycleLimitClocks v =>
    simp only [exec, execWrCycleLimitClocks, hostWrite_idle _ hb, Host.Outcome.next.injEq] at h
    exact .inr (.inr (.inr (.inr (.inl ⟨v, rfl, h.symm⟩))))
  case start =>
    simp only [exec, execStart, hostWrite_idle _ hb, Host.Outcome.next.injEq] at h
    exact .inr (.inr (.inr (.inr (.inr ⟨rfl, h.symm⟩))))
  all_goals
    left
    simp only [exec, execRdId, execRdCtrl, execRdStatus, execRdHighTicks, execRdLowTicks, execRdTrigHighClocks,
      execRdCycleLimitClocks, execRdClockCount, execRdReadThresholdLo, execRdReadThresholdHi, execRdCursor, execRdTickCount,
      execRdTickCompare, execRdPixelCount, execRdPipelineLatency, execRdBuf, execWrCtrlNop, execWrRoId, execWrRoStatus,
      execWrRoClockCount, execWrRoReadThresholdLo, execWrRoReadThresholdHi, execWrRoCursor, execWrRoTickCount,
      execWrRoTickCompare, execWrRoPixelCount, execWrRoPipelineLatency, execWrBuf, hostWrite_idle _ hb,
      Host.Outcome.next.injEq] at h
    subst h
    first | exact ⟨_, rfl⟩ | (split <;> exact ⟨_, rfl⟩)

end Sys2Proof.Machine
end

