-- ==== Sys2Proof/Laws/PerInstr.lean ====
section
/-! SUPPORT. Facts about every instruction, one lemma per constructor.  `OpcodeRow`: the canonical word of an instruction lies in
the instruction's own row of the opcode map (spec/30_encoding.md R78, R80). -/

namespace Sys2Proof.Laws.OpcodeRow

/-- The canonical word of `i` has the bits the match and mask of `i`'s row ask for. -/
def Statement (i : Instr) : Prop := encodeWord i &&& (opcodeRow i).2 = (opcodeRow i).1

/-- The bits of a command word with `RSV = 0`, field by field (R61). -/
theorem ofFields_getLsbD (w : Bool) (a : Addr) (d : Word) (k : Nat) :
    (CmdWord.ofFields w 0 a d).getLsbD k =
      if k < 16 then d.getLsbD k else if k - 16 < 10 then a.getLsbD (k - 16) else (decide (k = 31) && w) := by
  show ((BitVec.ofBool w ++ 0#5) ++ a ++ d).getLsbD k = _
  rw [BitVec.getLsbD_append, BitVec.getLsbD_append]
  congr 2
  by_cases h : k < 32
  · interval_cases k <;> cases w <;> rfl
  · rw [BitVec.getLsbD_of_ge _ _ (by omega), decide_eq_false (by omega), Bool.false_and]

/-- The fixed bits of a register write are its `W`, `RSV` and `ADDR` fields. -/
theorem writeWord_masked (a : Addr) (d : Word) : writeWord a d &&& 0xFFFF0000 = writeWord a 0 := by
  apply BitVec.eq_of_getLsbD_eq
  intro k hk
  rw [BitVec.getLsbD_and, writeWord, writeWord, ofFields_getLsbD, ofFields_getLsbD]
  interval_cases k <;> simp

/-- The fixed bits of a buffer access are its `W` and `RSV` fields and `ADDR[9]`. -/
theorem bufWord_masked (w : Bool) (i : BufIndex) (d : Word) :
    CmdWord.ofFields w 0 (bufferAddr i) d &&& 0xFE000000 = CmdWord.ofFields w 0 0x200 0 := by
  apply BitVec.eq_of_getLsbD_eq
  intro k hk
  rw [BitVec.getLsbD_and, ofFields_getLsbD, ofFields_getLsbD, bufferAddr, BitVec.getLsbD_append]
  interval_cases k <;> simp

theorem rdId : Statement .rdId := rfl
theorem rdCtrl : Statement .rdCtrl := rfl
theorem rdStatus : Statement .rdStatus := rfl
theorem rdHighTicks : Statement .rdHighTicks := rfl
theorem rdLowTicks : Statement .rdLowTicks := rfl
theorem rdTrigHighClocks : Statement .rdTrigHighClocks := rfl
theorem rdCycleLimitClocks : Statement .rdCycleLimitClocks := rfl
theorem rdClockCount : Statement .rdClockCount := rfl
theorem rdReadThresholdLo : Statement .rdReadThresholdLo := rfl
theorem rdReadThresholdHi : Statement .rdReadThresholdHi := rfl
theorem rdCursor : Statement .rdCursor := rfl
theorem rdTickCount : Statement .rdTickCount := rfl
theorem rdTickCompare : Statement .rdTickCompare := rfl
theorem rdPixelCount : Statement .rdPixelCount := rfl
theorem rdPipelineLatency : Statement .rdPipelineLatency := rfl

theorem rdBuf (i : BufIndex) : Statement (.rdBuf i) := bufWord_masked false i 0
theorem wrHighTicks (v : Word) : Statement (.wrHighTicks v) := writeWord_masked _ v
theorem wrLowTicks (v : Word) : Statement (.wrLowTicks v) := writeWord_masked _ v
theorem wrTrigHighClocks (v : Word) : Statement (.wrTrigHighClocks v) := writeWord_masked _ v
theorem wrCycleLimitClocks (v : Word) : Statement (.wrCycleLimitClocks v) := writeWord_masked _ v
theorem start : Statement .start := rfl
theorem wrCtrlNop : Statement .wrCtrlNop := rfl
theorem wrRoId (d : Word) : Statement (.wrRoId d) := writeWord_masked _ d
theorem wrRoStatus (d : Word) : Statement (.wrRoStatus d) := writeWord_masked _ d
theorem wrRoClockCount (d : Word) : Statement (.wrRoClockCount d) := writeWord_masked _ d
theorem wrRoReadThresholdLo (d : Word) : Statement (.wrRoReadThresholdLo d) := writeWord_masked _ d
theorem wrRoReadThresholdHi (d : Word) : Statement (.wrRoReadThresholdHi d) := writeWord_masked _ d
theorem wrRoCursor (d : Word) : Statement (.wrRoCursor d) := writeWord_masked _ d
theorem wrRoTickCount (d : Word) : Statement (.wrRoTickCount d) := writeWord_masked _ d
theorem wrRoTickCompare (d : Word) : Statement (.wrRoTickCompare d) := writeWord_masked _ d
theorem wrRoPixelCount (d : Word) : Statement (.wrRoPixelCount d) := writeWord_masked _ d
theorem wrRoPipelineLatency (d : Word) : Statement (.wrRoPipelineLatency d) := writeWord_masked _ d

theorem wrBuf (i : BufIndex) (d : Word) : Statement (.wrBuf i d) := bufWord_masked true i d

end Sys2Proof.Laws.OpcodeRow
end

