-- ==== Sys2Proof/Tests/Slice0.lean ====
section
/-! SUPPORT. The model's own tests: expected values are those of spec/95_test_vectors.md (named V<n>) or computed by hand from the
rule named; then one witness theorem for each obligation that has hypotheses. -/

namespace Sys2Proof.Tests

open Sys2Proof.Machine

/-! ## Helpers -/

/-- The instances REF, SMALL and ONE of spec/95_test_vectors.md section 0. -/
def refParams : Params := ⟨512, 14, 10, 2, 160, 0⟩
def smallParams : Params := ⟨4, 2, 10, 1, 65535, 0⟩
def oneParams : Params := ⟨1, 0, 10, 1, 65535, 0⟩

/-- The next state of an outcome. -/
def nextOf : Host.Outcome State Fault Refusal → State
  | .next t => t
  | _ => State.reset

/-- An edge with nothing presented and nothing delivered. -/
def quiet : PortSample := ⟨false, false, false, 0, 0, 0, false, 0, false⟩

/-- An edge at which the ADC delivers `v`. -/
def delivers (v : Sample) : PortSample := { quiet with adcDone := true, adcData := v }

/-- The input sample that presents word `c`. -/
def word (c : CmdWord) : PortSample := presentWord c quiet

/-- The state after the edge at which `s` sees the input sample `inp`. -/
def edge (inp : PortSample) (s : State) : State := nextOf (step { s with inputs := [inp] })

/-- The answer to word `c` in state `s`. -/
def answer (c : CmdWord) (s : State) : Option Response := (edge (word c) s).resp

/-- The state after reset of instance `p`. -/
def afterReset (p : Params) : State := { State.reset with params := p }

/-- Instance `p` after reset and `CFG hi, lo, t, m`. -/
def configured (p : Params) (hi lo t m : Word) : State :=
  { afterReset p with highTicks := hi, lowTicks := lo, trigHighClocks := t, cycleLimitClocks := m }

/-- A resting REF block in which every register holds another value. -/
def marked : State :=
  { configured refParams 0x1111 0x2222 0x3333 0x4444 with
    clockCount := 0x5555, readThresholdClock := 0x16666, cursor := 0x177, tickCount := 0x8888, tickCompare := 0x9999 }

/-- SMALL with `CFG 3, 2, 1, 100` right after START: program P1, edge 0. -/
def primed : State :=
  { configured smallParams 3 2 1 100 with
    readThresholdClock := 3, armed := true, tickCompare := 2, state := .priming, inputs := [quiet, quiet, quiet] }

/-- A later state of that cycle, in `INTEGRATING`, low phase of period 1: program P1, edge 5. -/
def integrating : State :=
  { primed with state := .integrating, clockCount := 1, clkOut := false, trigOut := true }

/-- Program P1, edge 15: the first ready event has happened. -/
def reading : State :=
  { primed with state := .reading, clockCount := 3, clkOut := false, sampleReadyFlag := true }

/-- Program P1, edge 16: the conversion is requested. -/
def converting : State := { reading with tickCount := 1, sampleReadyFlag := false, adcPending := true, adcStart := true }

/-- A high phase of that cycle, in which the next edge fires. -/
def beforeFall : State :=
  { primed with state := .reading, clockPhase := .high, clockCount := 3, tickCount := 2, tickCompare := 3, clkOut := true }

/-- A cycle that has timed out at its limit and ends at the next edge. -/
def timedOut : State := { reading with clockCount := 100, sampleReadyFlag := false, timeoutFlag := true }

/-- Three of the four pixels are stored, the last conversion is in flight. -/
def lastPixel : State :=
  { converting with
    clockCount := 6, cursor := 3, buf := [(0, 0x100), (1, 0x101), (2, 0x102)], inputs := [delivers 0x103] }

/-- SMALL after a completed cycle. -/
def completed : State :=
  { configured smallParams 3 2 1 100 with
    clockCount := 6, readThresholdClock := 3, cursor := 4, tickCount := 1, tickCompare := 2, state := .complete
    buf := [(0, 0x100), (1, 0x101), (2, 0x102), (3, 0x103)], inputs := [quiet] }

/-! ## Well-formed instructions (R78) -/

theorem test_wf_rdBuf_index : Instr.wellFormed 4 (.rdBuf 4) = false ∧ Instr.wellFormed 4 (.rdBuf 3) = true := by decide
theorem test_wf_wrBuf_index : Instr.wellFormed 4 (.wrBuf 4 0) = false ∧ Instr.wellFormed 4 (.wrBuf 3 0) = true := by decide
theorem test_wf_refused_by_decoder :
    decodeWord 4 0x02040000 = .error .bufferIndex ∧ decodeWord 4 0x82040000 = .error .bufferIndex := ⟨rfl, rfl⟩

/-! ## Decoding, words written out from R61 and R78: `W`, `RSV`, `ADDR`, `DATA` -/

theorem test_decode_reads :
    (decodeWord 512 0x00000000, decodeWord 512 0x00010000, decodeWord 512 0x0002BEEF, decodeWord 512 0x00030000,
      decodeWord 512 0x00040000, decodeWord 512 0x00050000, decodeWord 512 0x00060000, decodeWord 512 0x00070000) =
    (.ok .rdId, .ok .rdCtrl, .ok .rdStatus, .ok .rdHighTicks, .ok .rdLowTicks, .ok .rdTrigHighClocks,
      .ok .rdCycleLimitClocks, .ok .rdClockCount) := rfl

theorem test_decode_reads_upper :
    (decodeWord 512 0x00080000, decodeWord 512 0x00090000, decodeWord 512 0x000A0000, decodeWord 512 0x000B0000,
      decodeWord 512 0x000C0000, decodeWord 512 0x000D0000, decodeWord 512 0x000E0000, decodeWord 512 0x03FF0000) =
    (.ok .rdReadThresholdLo, .ok .rdReadThresholdHi, .ok .rdCursor, .ok .rdTickCount, .ok .rdTickCompare, .ok .rdPixelCount,
      .ok .rdPipelineLatency, .ok (.rdBuf 511)) := rfl

theorem test_decode_writes :
    (decodeWord 512 0x80030005, decodeWord 512 0x80040003, decodeWord 512 0x8005012C, decodeWord 512 0x8006FFFF,
      decodeWord 512 0x80010001, decodeWord 512 0x8001FFFF, decodeWord 512 0x80010000, decodeWord 512 0x8001FFFE) =
    (.ok (.wrHighTicks 5), .ok (.wrLowTicks 3), .ok (.wrTrigHighClocks 300), .ok (.wrCycleLimitClocks 65535),
      .ok .start, .ok .start, .ok .wrCtrlNop, .ok .wrCtrlNop) := rfl

theorem test_decode_refused_writes :
    (decodeWord 512 0x80000000, decodeWord 512 0x80021234, decodeWord 512 0x80070001, decodeWord 512 0x80080002,
      decodeWord 512 0x80090003, decodeWord 512 0x800A0000, decodeWord 512 0x800B0004, decodeWord 512 0x800C0005) =
    (.ok (.wrRoId 0), .ok (.wrRoStatus 0x1234), .ok (.wrRoClockCount 1), .ok (.wrRoReadThresholdLo 2),
      .ok (.wrRoReadThresholdHi 3), .ok (.wrRoCursor 0), .ok (.wrRoTickCount 4), .ok (.wrRoTickCompare 5)) := rfl

theorem test_decode_refused_writes_upper :
    (decodeWord 512 0x800D0006, decodeWord 512 0x800E0007, decodeWord 512 0x82070055) =
    (.ok (.wrRoPixelCount 6), .ok (.wrRoPipelineLatency 7), .ok (.wrBuf 7 0x55)) := rfl

/-- The same field by field: bit 31 `W`, bits 30:26 `RSV`, bits 25:16 `ADDR`, bits 15:0 `DATA` (R61). -/
theorem test_decode_bit_by_bit :
    (decodeWord 512 0b0_00000_0000000111_0000000000000000, decodeWord 512 0b1_00000_0000000100_0000000000000011,
      decodeWord 512 0b1_00000_0000000001_0000000000000001, decodeWord 512 0b0_00000_1000000100_0000000000000000,
      decodeWord 512 0b1_00000_1000000111_0000000001010101, decodeWord 512 0b1_00000_0000001010_0000000000000000) =
    (.ok .rdClockCount, .ok (.wrLowTicks 3), .ok .start, .ok (.rdBuf 4), .ok (.wrBuf 7 0x55), .ok (.wrRoCursor 0)) := rfl

theorem test_decode_illegal :
    (decodeWord 512 0x000F0000, decodeWord 512 0x01FF0000, decodeWord 512 0x800F0000, decodeWord 512 0x04000000,
      decodeWord 512 0x84030005, decodeWord 512 0xFFFFFFFF) =
    (.error .unmappedAddress, .error .unmappedAddress, .error .unmappedAddress, .error .reservedBits,
      .error .reservedBits, .error .reservedBits) := rfl

theorem test_encode_cfg :
    [Instr.wrHighTicks 5, .wrLowTicks 3, .wrTrigHighClocks 300, .wrCycleLimitClocks 0xFFFF].flatMap encode =
      [0x80030005, 0x80040003, 0x8005012C, 0x8006FFFF] := rfl

theorem test_table_word : decodeTableWord 32 0x8005012C = some (.wrTrigHighClocks 300) := rfl

/-! ## Reads: V8.1 after reset, R64 in a state whose registers all differ -/

theorem test_rdId : answer 0x00000000 marked = some ⟨0x9227, false⟩ := by decide
theorem test_rdCtrl : answer 0x00010000 marked = some ⟨0, false⟩ := by decide
theorem test_rdStatus_reset : answer 0x00020000 (afterReset refParams) = some ⟨0x0040, false⟩ := by decide
theorem test_rdStatus_reading : answer 0x00020000 reading = some ⟨0x001B, false⟩ := by decide
theorem test_rdHighTicks : answer 0x00030000 marked = some ⟨0x1111, false⟩ := by decide
theorem test_rdLowTicks : answer 0x00040000 marked = some ⟨0x2222, false⟩ := by decide
theorem test_rdTrigHighClocks : answer 0x00050000 marked = some ⟨0x3333, false⟩ := by decide
theorem test_rdCycleLimitClocks : answer 0x00060000 marked = some ⟨0x4444, false⟩ := by decide
theorem test_rdCycleLimitClocks_reset : answer 0x00060000 (afterReset refParams) = some ⟨0xFFFF, false⟩ := by decide
theorem test_rdClockCount : answer 0x00070000 marked = some ⟨0x5555, false⟩ := by decide
theorem test_rdReadThresholdLo : answer 0x00080000 marked = some ⟨0x6666, false⟩ := by decide
theorem test_rdReadThresholdHi : answer 0x00090000 marked = some ⟨1, false⟩ := by decide
theorem test_rdCursor : answer 0x000A0000 marked = some ⟨0x177, false⟩ := by decide
theorem test_rdTickCount : answer 0x000B0000 marked = some ⟨0x8888, false⟩ := by decide
theorem test_rdTickCompare : answer 0x000C0000 marked = some ⟨0x9999, false⟩ := by decide
theorem test_rdPixelCount : answer 0x000D0000 marked = some ⟨0x0200, false⟩ := by decide
theorem test_rdPipelineLatency : answer 0x000E0000 marked = some ⟨0x000E, false⟩ := by decide
theorem test_rdBuf_pushed : answer 0x02020000 completed = some ⟨0x102, false⟩ := by decide
theorem test_rdBuf_unmapped : answer 0x02040000 completed = some ⟨0, true⟩ := by decide

/-! ## Writes: V8.1, V8.2, V7 -/

theorem test_wrHighTicks :
    (edge (word 0x80030005) (afterReset refParams)).highTicks = 5 ∧ answer 0x80030005 primed = some ⟨0, true⟩ := by decide
theorem test_wrLowTicks : (edge (word 0x80040003) (afterReset refParams)).lowTicks = 3 := by decide
theorem test_wrTrigHighClocks : (edge (word 0x8005012C) (afterReset refParams)).trigHighClocks = 300 := by decide
theorem test_wrCycleLimitClocks : (edge (word 0x80060064) (afterReset refParams)).cycleLimitClocks = 100 := by decide
theorem test_start_valid :
    let t := edge (word 0x80010001) (configured refParams 5 3 65534 65535)
    statusWord t = 0x0049 ∧ t.readThresholdClock = 65548 ∧ t.tickCompare = 3 := by decide
theorem test_start_invalid :
    statusWord (edge (word 0x80010001) (configured refParams 5 3 600 600)) = 0x2840 ∧
    statusWord (edge (word 0x80010001) (configured refParams 161 3 10 100)) = 0x2840 := by decide
theorem test_wrCtrlNop :
    answer 0x80010000 completed = some ⟨0, false⟩ ∧ answer 0x80010000 reading = some ⟨0, true⟩ := by decide
theorem test_wrRo_low :
    [0x80000000, 0x80021234, 0x80070001, 0x80080001, 0x80090001].all
      (fun c => decide (edge (word c) marked = { marked with resp := some ⟨0, true⟩, edge := 1 })) = true := by decide
theorem test_wrRo_high :
    [0x800A0000, 0x800B0001, 0x800C0001, 0x800D0001, 0x800E0001].all
      (fun c => decide (edge (word c) marked = { marked with resp := some ⟨0, true⟩, edge := 1 })) = true := by decide
theorem test_wrBuf : answer 0x82010055 completed = some ⟨0, true⟩ ∧ (edge (word 0x82010055) completed).buf = completed.buf := by
  decide
theorem test_reserved_bits_write_nothing : (edge (word 0x84030005) (afterReset refParams)).highTicks = 0 := by decide

/-! ## Reset, firings and reader: V4, V6, P1 -/

theorem test_reset_edge : edge { quiet with rst := true } (afterReset smallParams) = { afterReset smallParams with edge := 1, bufEpoch := 1 } := by
  decide
theorem test_first_rise :
    let t := edge quiet { primed with tickCount := 1 }
    (t.state, t.clockPhase, t.tickCompare, t.clkOut, t.trigOut) = (.integrating, .high, 3, true, true) := by decide
theorem test_rise_without_pulse : (edge quiet { primed with trigHighClocks := 0, tickCount := 1 }).trigOut = false := by decide
theorem test_fall_at_limit :
    let t := edge quiet { beforeFall with cycleLimitClocks := 3, adcPending := true, sampleReadyFlag := true }
    (t.clockCount, t.timeoutFlag, t.overrunFlag, t.clkOut) = (3, true, false, false) := by decide
theorem test_collision :
    let t := edge quiet { beforeFall with sampleReadyFlag := true }
    (t.clockCount, t.sampleReadyFlag, t.adcPending, t.adcStart, t.overrunFlag) = (4, true, true, true, false) := by decide
theorem test_lost_window :
    let t := edge (delivers 7) { beforeFall with sampleReadyFlag := true, adcPending := true }
    (t.sampleReadyFlag, t.adcPending, t.adcStart, t.overrunFlag, t.cursor) = (true, false, false, true, 1) := by decide
theorem test_last_push :
    let t := edge (delivers 0x103) lastPixel
    (t.buf[3]?, t.cursor, statusWord t, t.armed) = (some (3, 0x103), 4, 0x0044, false) := by decide
theorem test_push_eight_bits :
    (push 0x3FF { lastPixel with params := { smallParams with sampleBits := 8 } }).buf[3]? = some (3, 0xFF) := by decide
theorem test_timeout_ends_cycle :
    let t := edge (delivers 1) { timedOut with adcPending := true }
    (t.state, t.cursor, statusWord t) = (.idle, 0, 0x6240) := by decide

/-! ## Witnesses: for each obligation with hypotheses, states and operands that meet them, clause by clause -/

/-- The good states the witnesses use. -/
theorem inv_afterReset : Inv (afterReset smallParams) := by constructor <;> decide
theorem inv_primed : Inv primed := by constructor <;> decide
theorem inv_integrating : Inv integrating := by constructor <;> decide
theorem inv_reading : Inv reading := by constructor <;> decide
theorem inv_converting : Inv converting := by constructor <;> decide
theorem inv_beforeFall : Inv beforeFall := by constructor <;> decide
theorem inv_timedOut : Inv timedOut := by constructor <;> decide
theorem inv_lastPixel : Inv lastPixel := by constructor <;> decide
theorem inv_completed : Inv completed := by constructor <;> decide

/-- A resting and a busy state at whose next edge a write is presented. -/
def restingWrite : State := { completed with inputs := [word 0x80030005] }
def busyWrite : State := { reading with inputs := [word 0x80030005] }

theorem witness_StepRunsPresentedTransaction :
    ((nextInput restingWrite).rst = false ∧ (nextInput restingWrite).hValid = true ∧ busy restingWrite.state = false ∧
      decodeWord 4 (commandWord (nextInput restingWrite)) = .ok (.wrHighTicks 5) ∧
      ∃ w, exec (.wrHighTicks 5) restingWrite = .next w) ∧
    ((nextInput busyWrite).rst = false ∧ (nextInput busyWrite).hValid = true ∧ busy busyWrite.state = true ∧
      decodeWord 4 (commandWord (nextInput busyWrite)) = .ok (.wrHighTicks 5) ∧
      ∃ w, exec (.wrHighTicks 5) busyWrite = .next w) :=
  ⟨⟨rfl, rfl, rfl, rfl, _, rfl⟩, ⟨rfl, rfl, rfl, rfl, _, rfl⟩⟩

theorem witness_NoTransactionEdge :
    ((nextInput primed).rst = false ∧ (nextInput primed).hValid = false) ∧
    ((nextInput completed).rst = false ∧ (nextInput completed).hValid = false) := by decide

/-- Legal and ILLEGAL words on both sides of every boundary: 0x00E and 0x00F, 0x1FF and 0x200, 0x203 and 0x204, `RSV`. -/
theorem witness_IllegalWordsRefused :
    [0x800E0000, 0x02000000, 0x02030000].all (fun c => (nextInput { completed with inputs := [word c] }).hValid &&
      decide ((decodeWord 4 (commandWord (word c))).toOption ≠ none)) = true ∧
    [0x000F0000, 0x81FF0000, 0x02040000, 0x03FF0000, 0x04000000, 0x84030005].all
      (fun c => (nextInput { completed with inputs := [word c] }).hValid &&
        decide ((decodeWord 4 (commandWord (word c))).toOption = none)) = true := by decide

theorem witness_ResetEdgeState :
    (nextInput { lastPixel with inputs := [{ quiet with rst := true }] }).rst = true ∧
    (nextInput { completed with inputs := [{ word 0x80010001 with rst := true }] }).rst = true := by decide

theorem witness_ResetEdgeForgetsBuffer :
    (nextInput { lastPixel with inputs := [{ quiet with rst := true }] }).rst = true ∧
    (nextInput { lastPixel with inputs := [{ quiet with rst := true }] }).hValid = false := by decide

/-- Index 3 of four is in the window, index 4 is not. -/
theorem witness_ReadBufferWindow :
    (3#9).toNat < completed.params.pixelCount ∧ completed.params.pixelCount ≤ (4#9).toNat ∧ Inv completed :=
  ⟨by decide, by decide, inv_completed⟩

theorem witness_ReadsChangeNothing :
    (encodeWord .rdPipelineLatency).getLsbD 31 = false ∧ (encodeWord (.rdBuf 0x1FF)).getLsbD 31 = false := by decide

theorem witness_ConfigurationWrites : busy completed.state = false ∧ busy primed.state = true := by decide

theorem witness_ControlWriteOfZero :
    busy (afterReset refParams).state = false ∧ busy reading.state = true ∧
    0x8001FFFE#32 &&& 0xFFFF0001 = 0x80010000 := by decide

/-- Each half-period just outside and exactly at its bound, `T = M` and `T = M - 1`. -/
theorem witness_StartCommand :
    busy reading.state = true ∧ 0x8001FFFF#32 &&& 0xFFFF0001 = 0x80010001 ∧
    [configured refParams 5 3 600 600, configured refParams 1 3 10 100, configured refParams 161 3 10 100,
      configured refParams 5 1 10 100, configured refParams 5 161 10 100].all
        (fun s => !busy s.state && (decide (s.trigHighClocks.toNat ≥ s.cycleLimitClocks.toNat) ||
          decide (s.highTicks.toNat < s.params.halfTicksMin) || decide (s.highTicks.toNat > s.params.halfTicksMax) ||
          decide (s.lowTicks.toNat < s.params.halfTicksMin) || decide (s.lowTicks.toNat > s.params.halfTicksMax))) = true ∧
    [configured refParams 2 160 599 600, configured refParams 160 2 0 1].all
        (fun s => !busy s.state && decide (s.trigHighClocks.toNat < s.cycleLimitClocks.toNat) &&
          decide (s.params.halfTicksMin ≤ s.highTicks.toNat) && decide (s.highTicks.toNat ≤ s.params.halfTicksMax) &&
          decide (s.params.halfTicksMin ≤ s.lowTicks.toNat) && decide (s.lowTicks.toNat ≤ s.params.halfTicksMax)) = true := by
  decide

/-- The largest sum: `T = 65534`, latency 255. -/
theorem witness_ThresholdSumExact :
    let s := configured { refParams with pipelineLatencyClocks := 255 } 5 3 65534 65535
    s.params.Legal ∧ busy s.state = false ∧ configInvalid s = false := by decide

theorem witness_ReadOnlyWritesRefused :
    (Instr.wrRoId 0xFFFF, 0x000#16) ∈ [(Instr.wrRoId 0xFFFF, 0x000#16), (.wrRoStatus 0xFFFF, 0x002#16)] := by decide

theorem witness_RefusedTransactionLeavesNoTrace :
    (nextInput busyWrite).rst = false ∧ (∃ t, step busyWrite = .next t ∧ t.resp = some ⟨0, true⟩) ∧
    ∃ t, step { completed with inputs := [word 0x82010055] } = .next t ∧ t.resp = some ⟨0, true⟩ :=
  ⟨rfl, ⟨_, rfl, rfl⟩, ⟨_, rfl, rfl⟩⟩

theorem witness_RestingBlockKeepsState :
    busy restingWrite.state = false ∧ presented restingWrite = .op (.wrHighTicks 5) ∧ ∃ t, step restingWrite = .next t :=
  ⟨rfl, rfl, _, rfl⟩

theorem witness_TickAdvanceEffect :
    completed.armed = false ∧ primed.armed = true ∧ primed.tickCount.toNat + 1 ≠ primed.tickCompare.toNat := by decide

/-- A FIRE_RISE due at `clockCount = 0`, at `clockCount = T`, at both, and at neither. -/
theorem witness_FireRiseEffect :
    [{ primed with tickCount := 1 }, { primed with tickCount := 1, trigHighClocks := 0 },
      { integrating with tickCount := 1 }, { reading with tickCount := 1 }].all
        (fun s => s.armed && decide (s.tickCount.toNat + 1 = s.tickCompare.toNat) && decide (s.clockPhase = .low)) = true := by
  decide

/-- A FIRE_FALL due at the limit, one below the threshold, at the threshold, and with the flag set. -/
theorem witness_FireFallEffect :
    let due := fun s : State => s.armed = true ∧ s.tickCount.toNat + 1 = s.tickCompare.toNat ∧ s.clockPhase = .high
    due { beforeFall with clockCount := 100 } ∧
    (due { beforeFall with state := .integrating, clockCount := 1 } ∧ (1#16 + 1).toNat < primed.readThresholdClock.toNat) ∧
    (due { beforeFall with state := .integrating, clockCount := 2 } ∧ (2#16 + 1).toNat = primed.readThresholdClock.toNat) ∧
    due { beforeFall with sampleReadyFlag := true } := by decide

theorem witness_ReadySetOnlyAtPeriodEnd :
    beforeFall.sampleReadyFlag = false ∧ ∃ t, step beforeFall = .next t ∧ t.sampleReadyFlag = true := ⟨rfl, _, rfl, rfl⟩

/-- The trigger rises at the first firing and falls at the end of a timed-out cycle. -/
theorem witness_TriggerChangesOnlyAtRise :
    (Inv { primed with tickCount := 1 } ∧ presented { primed with tickCount := 1 } = .hostNone ∧
      ∃ t, step { primed with tickCount := 1 } = .next t ∧ t.trigOut ≠ false) ∧
    (Inv { integrating with cycleLimitClocks := 2, timeoutFlag := true } ∧
      ∃ t, step { integrating with cycleLimitClocks := 2, timeoutFlag := true } = .next t ∧ t.trigOut ≠ integrating.trigOut) :=
  ⟨⟨by constructor <;> decide, rfl, _, rfl, by decide⟩, ⟨by constructor <;> decide, _, rfl, by decide⟩⟩

theorem witness_ClockCountGrowsByOne :
    Inv beforeFall ∧ busy beforeFall.state = true ∧ presented beforeFall = .hostNone ∧
      (∃ t, step beforeFall = .next t ∧ t.clockCount = 4) ∧
    Inv { beforeFall with clockCount := 100 } ∧ ∃ t, step { beforeFall with clockCount := 100 } = .next t ∧ t.clockCount = 100 :=
  ⟨inv_beforeFall, rfl, rfl, ⟨_, rfl, rfl⟩, by constructor <;> decide, _, rfl, rfl⟩

/-- Each of the READER's four operations has its condition met; the wait in both its forms. -/
theorem witness_ReaderTurn :
    timedOut.timeoutFlag = true ∧
    (lastPixel.timeoutFlag = false ∧ lastPixel.adcPending = true ∧ (delivers 0).adcDone = true) ∧
    (reading.timeoutFlag = false ∧ reading.adcPending = false ∧ reading.sampleReadyFlag = true) ∧
    (lastPixel.timeoutFlag = false ∧ lastPixel.adcPending = true ∧ quiet.adcDone = false) ∧
    (integrating.timeoutFlag = false ∧ integrating.adcPending = false ∧ integrating.sampleReadyFlag = false) := by decide

/-- The cursor at 0, at the last entry and at the full buffer. -/
theorem witness_PushStoresSample :
    smallParams.Legal ∧ converting.cursor.toNat < converting.params.pixelCount ∧
    lastPixel.cursor.toNat + 1 = lastPixel.params.pixelCount ∧ completed.cursor.toNat = completed.params.pixelCount := by decide

theorem witness_CollisionSetWins :
    let s := { beforeFall with sampleReadyFlag := true }
    (nextInput s).rst = false ∧ busy s.state = true ∧ s.armed = true ∧ s.timeoutFlag = false ∧ s.adcPending = false ∧
    s.sampleReadyFlag = true ∧ s.clockPhase = .high ∧ s.tickCount.toNat + 1 = s.tickCompare.toNat ∧
    s.clockCount ≠ s.cycleLimitClocks ∧ s.readThresholdClock.toNat ≤ (s.clockCount + 1).toNat := by decide

theorem witness_TimeoutEndsCycle :
    let s := { timedOut with adcPending := true, inputs := [delivers 1] }
    (nextInput s).rst = false ∧ busy s.state = true ∧ s.timeoutFlag = true := by decide

theorem witness_ConversionRequestPulse :
    Inv reading ∧ (∃ t, step reading = .next t ∧ t.adcStart = true) ∧
    Inv lastPixel ∧ ∃ t, step lastPixel = .next t ∧ t.adcStart = false :=
  ⟨inv_reading, ⟨_, rfl, rfl⟩, inv_lastPixel, _, rfl, rfl⟩

theorem witness_BufferWrittenOnlyByPush :
    (nextInput lastPixel).rst = false ∧ busy lastPixel.state = true ∧ lastPixel.timeoutFlag = false ∧
    lastPixel.adcPending = true ∧ (nextInput lastPixel).adcDone = true ∧
    lastPixel.cursor.toNat ≠ lastPixel.params.pixelCount ∧ ∃ t, step lastPixel = .next t :=
  ⟨rfl, rfl, rfl, rfl, rfl, by decide, _, rfl⟩

theorem witness_HostTrafficInvisibleWhileBusy : busy reading.state = true ∧ reading.inputs = quiet :: [quiet, quiet] := by decide

theorem witness_IgnoredInputs :
    (completed.inputs = quiet :: [] ∧ busy completed.state = false) ∧
    (reading.inputs = quiet :: [quiet, quiet] ∧ reading.adcPending = false) ∧
    (timedOut.inputs = quiet :: [quiet, quiet] ∧ timedOut.timeoutFlag = true) ∧
    (converting.inputs = quiet :: [quiet, quiet] ∧ converting.adcPending = true ∧ quiet.adcDone = false) := by decide

theorem witness_ConfigurationFrozenWhileBusy :
    busy busyWrite.state = true ∧ (nextInput busyWrite).rst = false ∧ ∃ t, step busyWrite = .next t := ⟨rfl, rfl, _, rfl⟩

/-- Every flag set, in a resting block and (with a refused START) in a busy one. -/
theorem witness_ErrorFlagsSticky :
    let s := { completed with overrunFlag := true, timeoutFlag := true, capErrFlag := true, cfgErrFlag := true }
    let b := { reading with overrunFlag := true, inputs := [word 0x80010001] }
    presented s ≠ .reset ∧ presented s ≠ .op .start ∧ presented b ≠ .reset ∧ busy b.state = true := by decide

/-- One state and next state for each of the four causes; the third is a state no run reaches (R146). -/
theorem witness_ErrorCauses :
    (∃ t, step { beforeFall with sampleReadyFlag := true, adcPending := true } = .next t ∧ t.overrunFlag = true) ∧
    (∃ t, step { beforeFall with clockCount := 100 } = .next t ∧ t.timeoutFlag = true) ∧
    (∃ t, step { lastPixel with cursor := 4 } = .next t ∧ t.capErrFlag = true) ∧
    ∃ t, step { afterReset smallParams with inputs := [word 0x80010001] } = .next t ∧ t.cfgErrFlag = true :=
  ⟨⟨_, rfl, rfl⟩, ⟨_, rfl, rfl⟩, ⟨_, rfl, rfl⟩, ⟨_, rfl, rfl⟩⟩

/-- One good state and its next state for each row of the table. -/
theorem witness_StateTransitionTable :
    (Inv lastPixel ∧ ∃ t, step lastPixel = .next t ∧ t.state = .complete) ∧
    (Inv timedOut ∧ ∃ t, step timedOut = .next t ∧ t.state = .idle) ∧
    (Inv { primed with tickCount := 1 } ∧ ∃ t, step { primed with tickCount := 1 } = .next t ∧ t.state = .integrating) ∧
    (Inv { beforeFall with state := .integrating, clockCount := 2 } ∧
      ∃ t, step { beforeFall with state := .integrating, clockCount := 2 } = .next t ∧ t.state = .reading) ∧
    (Inv { completed with inputs := [word 0x80010001] } ∧
      ∃ t, step { completed with inputs := [word 0x80010001] } = .next t ∧ t.state = .priming) ∧
    (Inv { completed with trigHighClocks := 100, inputs := [word 0x80010001] } ∧
      ∃ t, step { completed with trigHighClocks := 100, inputs := [word 0x80010001] } = .next t ∧ t.state = .idle) :=
  ⟨⟨inv_lastPixel, _, rfl, rfl⟩, ⟨inv_timedOut, _, rfl, rfl⟩, ⟨by constructor <;> decide, _, rfl, rfl⟩,
    ⟨by constructor <;> decide, _, rfl, rfl⟩, ⟨by constructor <;> decide, _, rfl, rfl⟩, by constructor <;> decide, _, rfl, rfl⟩

theorem witness_EveryEdgeKeepsInvariants :
    (Inv (afterReset smallParams)) ∧ (Inv reading ∧ ∃ t, step reading = .next t) ∧ (Inv lastPixel ∧ ∃ t, step lastPixel = .next t) :=
  ⟨inv_afterReset, ⟨inv_reading, _, rfl⟩, inv_lastPixel, _, rfl⟩

/-- A legal record and a run of two edges from reset: a configuration write, then START. -/
theorem witness_ReachableStatesMeetInvariants :
    smallParams.Legal ∧
    ∃ t, RunsTo 2 { afterReset smallParams with inputs := [word 0x80030005, word 0x80010001] } t ∧ t.cfgErrFlag = true :=
  ⟨by decide, _, rfl, rfl⟩

/-- The trigger is at its level before and after the last period of the pulse. -/
theorem witness_EveryEdgeKeepsTriggerShape :
    (Inv { integrating with tickCount := 1 } ∧ integrating.trigOut = trigLevel integrating) ∧
    ∃ t, step { integrating with tickCount := 1 } = .next t ∧ busy t.state = true ∧ t.state ≠ .priming ∧ t.trigOut = false :=
  ⟨⟨by constructor <;> decide, by decide⟩, _, rfl, rfl, by decide, rfl⟩

theorem witness_DecodeOfEncode :
    Instr.wellFormed 512 (.wrBuf 511 0xFFFF) = true ∧ Instr.wellFormed 4 (.rdBuf 3) = true ∧
    Instr.wellFormed 4 (.wrRoCursor 0) = true := by decide

theorem witness_EncodeOfDecodeCanonical :
    (decodeWord 512 0x03FF0000 = .ok (.rdBuf 511) ∧ (0x03FF0000 : CmdWord).setWidth 16 = 0#16) ∧
    (decodeWord 512 0x80010001 = .ok .start ∧ (0x80010001 : CmdWord).extractLsb' 1 15 = 0#15) ∧
    (decodeWord 512 0x8006FFFF = .ok (.wrCycleLimitClocks 0xFFFF) ∧ (0x8006FFFF : CmdWord).extractLsb' 16 10 ≠ 0x001#10) :=
  ⟨⟨rfl, rfl⟩, ⟨rfl, rfl⟩, rfl, by decide⟩

theorem witness_DecodeMatchesOpcodeTable :
    decodeWord 512 0x8001FFFF = .ok .start ∧ (0x8001FFFF : CmdWord) &&& (opcodeRow .start).2 = (opcodeRow .start).1 := ⟨rfl, rfl⟩

theorem witness_EveryCycleEnds : (Inv primed ∧ busy primed.state = true) ∧ (Inv timedOut ∧ busy timedOut.state = true) :=
  ⟨⟨inv_primed, rfl⟩, inv_timedOut, rfl⟩

/-- A cycle of two pixels with `Lo = 3`, `Hi = 2`, `T = 0`, latency 1 and the least limit with room, right after START.  The first
sample comes 4 edges after its request (`d + 1 = Lo + Hi`), the last one 2 edges after its (`d + 1 = Lo`). -/
def twoPixels : State :=
  { configured { oneParams with pixelCount := 2, pipelineLatencyClocks := 1 } 2 3 0 2 with
    readThresholdClock := 1, armed := true, tickCompare := 3, state := .priming
    inputs := List.replicate 9 quiet ++ [delivers 0x3FF, quiet, quiet, delivers 0x001] }

theorem cycleStart_twoPixels : CycleStart twoPixels := ⟨by constructor <;> decide, rfl, rfl, rfl⟩

theorem busyBefore_twoPixels : BusyBefore 13 twoPixels := by
  intro j hj
  interval_cases j <;> exact ⟨_, rfl, rfl⟩

theorem BusyBefore.mono {j k : Nat} {s : State} (h : BusyBefore k s) (hj : j ≤ k) : BusyBefore j s :=
  fun i hi => h i (Nat.lt_of_lt_of_le hi hj)

/-- Edges 2, 3, 5 and 8: the last before the first firing, the firing itself, the first falling transition, the next rise. -/
theorem witness_FiringTimesExact :
    CycleStart twoPixels ∧ period twoPixels = 5 ∧ ∀ k ∈ [2, 3, 5, 8],
      BusyBefore k twoPixels ∧ ∃ t, RunsTo k twoPixels t ∧ busy t.state = true ∧ t.timeoutFlag = false := by
  refine ⟨cycleStart_twoPixels, rfl, ?_⟩
  intro k hk
  fin_cases hk <;> exact ⟨BusyBefore.mono busyBefore_twoPixels (by decide), _, rfl, rfl, rfl⟩

theorem witness_LineWaveforms :
    CycleStart twoPixels ∧ BusyBefore 4 twoPixels ∧
      ∃ t, RunsTo 4 twoPixels t ∧ busy t.state = true ∧ t.timeoutFlag = false :=
  ⟨cycleStart_twoPixels, BusyBefore.mono busyBefore_twoPixels (by decide), _, rfl, rfl, rfl⟩

/-- PRIMING at edge 2, INTEGRATING at edge 4, READING at edge 5. -/
theorem witness_CycleStages :
    CycleStart twoPixels ∧ BusyBefore 5 twoPixels ∧
      (∃ t, RunsTo 2 twoPixels t ∧ t.timeoutFlag = false ∧ t.state = .priming) ∧
      (∃ t, RunsTo 4 twoPixels t ∧ t.timeoutFlag = false ∧ t.state = .integrating) ∧
      ∃ t, RunsTo 5 twoPixels t ∧ t.timeoutFlag = false ∧ t.state = .reading :=
  ⟨cycleStart_twoPixels, BusyBefore.mono busyBefore_twoPixels (by decide), ⟨_, rfl, rfl, rfl⟩, ⟨_, rfl, rfl, rfl⟩, _, rfl, rfl, rfl⟩

/-- The same cycle with an ADC that always answers at the next edge: one request at edge 6 and one at edge 11, completion at 12. -/
def promptAdc : State := { twoPixels with inputs := List.replicate 13 (delivers 0x155) }

theorem witness_NoLostWindow :
    CycleStart promptAdc ∧
    (∀ j u, BusyBefore j promptAdc → RunsTo j promptAdc u → u.adcStart = true →
      ∃ d, 1 ≤ d ∧ d + 1 ≤ period promptAdc ∧ (inputAt promptAdc (j + d - 1)).adcDone = true) ∧
    (∃ u, RunsTo 6 promptAdc u ∧ u.adcStart = true) ∧ BusyBefore 12 promptAdc ∧ ∃ t, RunsTo 12 promptAdc t := by
  refine ⟨⟨by constructor <;> decide, rfl, rfl, rfl⟩, ?_, ⟨_, rfl, rfl⟩, ?_, _, rfl⟩
  · intro j u hb hr _
    by_cases hj : j ≤ 12
    · interval_cases j <;> exact ⟨1, by decide, by decide, rfl⟩
    · obtain ⟨v, hv, hbusy⟩ := hb 12 (by omega)
      cases hv
      exact absurd hbusy (by decide)
  · intro j hj
    interval_cases j <;> exact ⟨_, rfl, rfl⟩

theorem witness_OrdinaryCycleCapturesAllSamples :
    let d := fun j : Nat => if j = 0 then 4 else 2
    let e := fun j : Nat => (1 + j) * period twoPixels + 1 + d j
    CycleStart twoPixels ∧ 1 ≤ twoPixels.trigHighClocks.toNat + twoPixels.params.pipelineLatencyClocks ∧
    1 + 2 - 1 ≤ twoPixels.cycleLimitClocks.toNat ∧ (∀ j < 2, 1 ≤ d j ∧ d j + 1 ≤ period twoPixels) ∧
    d (2 - 1) + 1 ≤ twoPixels.lowTicks.toNat ∧ (∀ n < e (2 - 1), (inputAt twoPixels n).rst = false) ∧
    (∀ j < 2, (inputAt twoPixels (e j - 1)).adcDone = true ∧
      ∀ n < e j, (1 + j) * period twoPixels + 1 ≤ n → n + 1 < e j → (inputAt twoPixels n).adcDone = false) := by
  refine ⟨cycleStart_twoPixels, ?_⟩
  decide

end Sys2Proof.Tests
end

section
/-! PROOFS. The invariants of R37 (`Inv`): what they come down to in a resting block, that each operation of READER, TICK and HOST
keeps them, and with that every edge and every run.  Then the statements about single elements, `clockCount` and `adc_start`. -/

namespace Sys2Proof.Machine

/-! ## The shape of an edge (R90) -/

theorem presented_eq_reset_iff (s : State) : presented s = .reset ↔ (nextInput s).rst = true := by
  cases hr : (nextInput s).rst with
  | true => simp [presented, hr]
  | false =>
    cases hv : (nextInput s).hValid with
    | false => simp [presented, hr, hv]
    | true =>
      cases hd : decodeWord s.params.pixelCount (commandWord (nextInput s)) <;> simp [presented, hr, hv, hd]

theorem finishEdge_busy {s : State} (hb : busy s.state = true) (w : State) :
    finishEdge s w = consumeInput (tickPhase (readerPhase (nextInput s) w)) := by
  simp [finishEdge, hb]

theorem finishEdge_resting {s : State} (hb : busy s.state = false) (w : State) : finishEdge s w = consumeInput w := by
  simp [finishEdge, hb]

/-- A busy edge without reset is READER, then TICK, on the state with some answer in place (R90, R180). -/
theorem step_busy {s t : State} (hb : busy s.state = true) (hr : presented s ≠ .reset) (h : step s = .next t) :
    ∃ r, t = consumeInput (tickPhase (readerPhase (nextInput s) { s with resp := r })) := by
  rcases step_cases s with ⟨hp, _⟩ | ⟨_, e⟩ | ⟨_, _, e⟩ | ⟨i, w, _, hw, e⟩
  · exact absurd hp hr
  · rw [e, finishEdge_busy hb, Host.Outcome.next.injEq] at h
    exact ⟨none, h.symm⟩
  · rw [e, finishEdge_busy hb, Host.Outcome.next.injEq] at h
    exact ⟨some ⟨0, true⟩, h.symm⟩
  · obtain ⟨r, rfl⟩ := exec_busy hb hw
    rw [e, finishEdge_busy hb, Host.Outcome.next.injEq] at h
    exact ⟨some r, h.symm⟩

/-- An edge of a resting block without reset is the HOST's turn alone: an answer, or an instruction (R90, R93). -/
theorem step_resting {s t : State} (hb : busy s.state = false) (hr : presented s ≠ .reset) (h : step s = .next t) :
    (∃ r, t = consumeInput { s with resp := r }) ∨ ∃ i w, exec i s = .next w ∧ t = consumeInput w := by
  rcases step_cases s with ⟨hp, _⟩ | ⟨_, e⟩ | ⟨_, _, e⟩ | ⟨i, w, _, hw, e⟩
  · exact absurd hp hr
  · rw [e, finishEdge_resting hb, Host.Outcome.next.injEq] at h
    exact .inl ⟨none, h.symm⟩
  · rw [e, finishEdge_resting hb, Host.Outcome.next.injEq] at h
    exact .inl ⟨some ⟨0, true⟩, h.symm⟩
  · rw [e, finishEdge_resting hb, Host.Outcome.next.injEq] at h
    exact .inr ⟨i, w, hw, h.symm⟩

theorem step_reset {s t : State} (hr : presented s = .reset) (h : step s = .next t) : t = resetEdge s := by
  simpa [step, hr] using h.symm

theorem step_next (s : State) : ∃ t, step s = .next t := by
  rcases step_cases s with ⟨_, e⟩ | ⟨_, e⟩ | ⟨_, _, e⟩ | ⟨_, _, _, _, e⟩ <;> exact ⟨_, e⟩

theorem runsTo_zero {s t : State} : RunsTo 0 s t ↔ s = t :=
  ⟨fun h => Host.Outcome.next.inj h, fun h => congrArg _ h⟩

theorem runsTo_succ {k : Nat} {s t : State} : RunsTo (k + 1) s t ↔ ∃ u, step s = .next u ∧ RunsTo k u t := by
  obtain ⟨u, hu⟩ := step_next s
  have hrun : Host.Core.run Sys2Proof.core (k + 1) s = Host.Core.run Sys2Proof.core k u := by
    have hs : Sys2Proof.core.step s = .next u := hu
    simp only [Host.Core.run, hs]
  simp [RunsTo, hrun, hu]

/-! ## What the invariants say -/

theorem busy_iff (st : CycleState) : busy st = true ↔ st = .priming ∨ st = .integrating ∨ st = .reading := by
  cases st <;> simp [busy]

theorem configInvalid_eq_false_iff (s : State) :
    configInvalid s = false ↔
      s.trigHighClocks.toNat < s.cycleLimitClocks.toNat ∧
      (s.params.halfTicksMin ≤ s.highTicks.toNat ∧ s.highTicks.toNat ≤ s.params.halfTicksMax) ∧
      (s.params.halfTicksMin ≤ s.lowTicks.toNat ∧ s.lowTicks.toNat ≤ s.params.halfTicksMax) := by
  simp [configInvalid, halfTicksInvalid, and_assoc]

/-- The half-periods of a valid configuration are positive (R6, R152). -/
theorem halfTicks_pos {s : State} (hp : s.params.Legal) (hc : configInvalid s = false) :
    0 < s.highTicks.toNat ∧ 0 < s.lowTicks.toNat := by
  obtain ⟨_, _, _, _, hmin, _, _⟩ := hp
  obtain ⟨_, ⟨hhigh, _⟩, hlow, _⟩ := (configInvalid_eq_false_iff s).1 hc
  omega

/-- The threshold's 17 bits hold the sum, so the addition is exact (R19, R94, R151). -/
theorem thresholdOf_toNat {s : State} (hp : s.params.Legal) :
    (thresholdOf s).toNat = s.trigHighClocks.toNat + s.params.pipelineLatencyClocks := by
  obtain ⟨_, _, hlat, _⟩ := hp
  have htrig := s.trigHighClocks.isLt
  simp only [thresholdOf, BitVec.toNat_add, BitVec.toNat_setWidth, BitVec.toNat_ofNat]
  omega

section
variable {s : State} (h : Inv s)
include h

theorem Inv.armed_of_busy (hb : busy s.state = true) : s.armed = true := h.armed_eq_busy.trans hb

theorem Inv.no_config_error (hb : busy s.state = true) : s.cfgErrFlag = false := by
  cases hc : s.cfgErrFlag with
  | false => rfl
  | true =>
    obtain ⟨hidle, _⟩ := h.config_error hc
    rw [hidle] at hb
    cases hb

/-- A busy block that has found a sample ready or waits for one is READING (R150). -/
theorem Inv.reading (hb : busy s.state = true) (hr : s.sampleReadyFlag = true ∨ s.adcPending = true) :
    s.state = .reading := by
  by_contra hne
  have hearly : s.state = .priming ∨ s.state = .integrating := by
    rcases (busy_iff _).1 hb with e | e | e
    · exact .inl e
    · exact .inr e
    · exact absurd e hne
  obtain ⟨hready, hpending, _⟩ := h.before_reading hearly
  simp [hready, hpending] at hr

/-- PRIMING emits no high half-period (item 5). -/
theorem Inv.not_priming (hp : s.clockPhase = .high) : s.state ≠ .priming := by
  intro hs
  obtain ⟨hlow, _⟩ := h.priming hs
  rw [hp] at hlow
  cases hlow

end

/-! ## A resting block -/

/-- The part of `Inv` that speaks of the parameters, the sample memory and the cursor, the same in every state. -/
structure BufInv (s : State) : Prop where
  params_legal : s.params.Legal
  buf_wf : s.buf.wf
  buf_entries : ∀ x ∈ s.buf, x.1 < s.params.pixelCount ∧ x.2.toNat < 2 ^ s.params.sampleBits
  captured : ∀ i < s.cursor.toNat, (s.buf.read i).isSome = true
  cursor_le : s.cursor.toNat ≤ s.params.pixelCount

/-- What `Inv` comes down to in a block that is not busy; nothing in it reads the configuration registers. -/
structure RestInv (s : State) : Prop extends BufInv s where
  resting : busy s.state = false
  ready_count : s.sampleReadyFlag = true → s.readThresholdClock.toNat ≤ s.clockCount.toNat
  complete_full : s.state = .complete → s.cursor.toNat = s.params.pixelCount
  quiet : s.armed = false ∧ s.adcPending = false ∧ s.adcStart = false ∧ s.clkOut = true ∧ s.trigOut = false
  config_error : s.cfgErrFlag = true →
    s.state = .idle ∧ s.overrunFlag = false ∧ s.timeoutFlag = false ∧ s.capErrFlag = false
  no_capacity_error : s.capErrFlag = false

theorem Inv.restInv {s : State} (h : Inv s) (hb : busy s.state = false) : RestInv s :=
  { h with resting := hb, quiet := h.rest hb }

theorem RestInv.inv {s : State} (h : RestInv s) : Inv s := by
  have hb : busy s.state ≠ true := by simp [h.resting]
  have hprim : s.state ≠ .priming := fun e => hb ((busy_iff _).2 (.inl e))
  have hint : s.state ≠ .integrating := fun e => hb ((busy_iff _).2 (.inr (.inl e)))
  obtain ⟨harmed, _, hstart, _⟩ := h.quiet
  exact { h with
    armed_eq_busy := harmed.trans h.resting.symm
    cursor_lt := fun e => absurd e hb
    tick_lt := fun e => by simp [harmed] at e
    tick_compare := fun e => by simp [harmed] at e
    config_valid := fun e => absurd e hb
    clk_eq_phase := fun e => absurd e hb
    priming := fun e => absurd e hprim
    before_reading := fun e => (e.elim hprim hint).elim
    priming_no_timeout := fun e => absurd e hprim
    count_le_limit := fun e => absurd e hb
    threshold := fun e => absurd e hb
    rest := fun _ => h.quiet
    request_pending := fun e => by simp [hstart] at e }

/-- The reset state of any legal parameter record, whatever the ports did and will do (R39, R260). -/
theorem inv_reset {p : Params} (hp : p.Legal) (r : Option Response) (l : List PortSample) (n epoch : Nat) :
    Inv { State.reset with params := p, resp := r, inputs := l, edge := n, bufEpoch := epoch } :=
  RestInv.inv {
    resting := rfl
    params_legal := hp
    buf_wf := reset_buf_wf
    buf_entries := by simp [State.reset]
    captured := by simp [State.reset]
    cursor_le := Nat.zero_le _
    ready_count := by simp [State.reset]
    complete_full := by simp [State.reset]
    quiet := ⟨rfl, rfl, rfl, rfl, rfl⟩
    config_error := by simp [State.reset]
    no_capacity_error := rfl }

theorem config_params_legal : Config.params.Legal := by
  have hmin : Config.halfTicksMin ≤ 65535 := Nat.mod_lt _ (by decide)
  have hspan : Config.openHalfTicksSpan % (65536 - Config.halfTicksMin) < 65536 - Config.halfTicksMin :=
    Nat.mod_lt _ (by omega)
  refine ⟨by decide, by decide, by decide, .inr rfl, Nat.succ_le_succ (Nat.zero_le _), Nat.le_add_right _ _, ?_⟩
  show Config.halfTicksMin + Config.openHalfTicksSpan % (65536 - Config.halfTicksMin) ≤ 65535
  omega

/-! ## READER (R154) -/

theorem inv_answer {s : State} (h : Inv s) (r : Option Response) : Inv { s with resp := r } := { h with }

theorem inv_consumeInput {s : State} (h : Inv s) : Inv (consumeInput s) := { h with }

/-- Ending a running cycle leaves a good resting block: in IDLE always, in COMPLETE if the buffer is full (R158). -/
theorem inv_terminate {s : State} (h : Inv s) (hcfg : s.cfgErrFlag = false) {st : CycleState} (hst : busy st = false)
    (hfull : st = .complete → s.cursor.toNat = s.params.pixelCount) : Inv (terminate st s) :=
  RestInv.inv { h with
    resting := hst
    complete_full := hfull
    quiet := ⟨rfl, rfl, rfl, rfl, rfl⟩
    config_error := fun e => by simp [hcfg] at e }

/-- In READING the ADC handshake may be at any point, provided a raised `adc_start` has its request pending (R155, R161). -/
theorem inv_handshake {s : State} (h : Inv s) (hs : s.state = .reading) {pending start : Bool}
    (hreq : start = true → pending = true) : Inv { s with adcPending := pending, adcStart := start } :=
  { h with
    before_reading := by simp [hs]
    rest := by simp [hs, busy]
    request_pending := hreq }

theorem inv_rdWait {s : State} (h : Inv s) : Inv (rdWait s) :=
  { h with
    rest := fun hb => by
      obtain ⟨harmed, hpending, _, hlines⟩ := h.rest hb
      exact ⟨harmed, hpending, rfl, hlines⟩
    request_pending := by simp }

theorem inv_rdConsume {s : State} (h : Inv s) (hs : s.state = .reading) : Inv (rdConsume s) :=
  { inv_handshake h hs (pending := true) (start := true) (fun _ => rfl) with
    priming := by simp [hs]
    before_reading := by simp [hs]
    ready_count := by simp }

theorem Inv.bufInv {s : State} (h : Inv s) : BufInv s := { h with }

/-- Below `PIXEL_COUNT` the cursor has room to count (R21, R94). -/
theorem cursor_succ_toNat {s : State} (hp : s.params.Legal) (hroom : s.cursor.toNat < s.params.pixelCount) :
    (s.cursor + 1).toNat = s.cursor.toNat + 1 := by
  obtain ⟨_, hpix, _⟩ := hp
  exact BitVec.toNat_add_of_lt (show s.cursor.toNat + 1 < _ by omega)

theorem push_of_room (v : Sample) {s : State} (hroom : s.cursor.toNat < s.params.pixelCount) :
    push v s = { s with
      buf := s.buf.write s.cursor.toNat (truncateSample s.params.sampleBits v), cursor := s.cursor + 1 } := by
  rcases push_cases v s with ⟨hfull, _⟩ | ⟨_, e⟩
  · omega
  · exact e

/-- `Push` into a buffer with room stores an entry of the right width at the cursor, so the entries below the next cursor are all
captured (R56, R141, R145). -/
theorem bufInv_push {s : State} (h : BufInv s) (v : Sample) (hroom : s.cursor.toNat < s.params.pixelCount) :
    BufInv (push v s) := by
  have hcursor := cursor_succ_toNat h.params_legal hroom
  have hwf := push_buf_wf v h.buf_wf
  rw [push_of_room v hroom] at hwf ⊢
  refine ⟨h.params_legal, hwf, fun x hx => ?_, fun i hi => ?_, ?_⟩
  · rcases Memory.mem_write hx with rfl | hx
    · exact ⟨hroom, truncateSample_lt _ v⟩
    · exact h.buf_entries x hx
  · simp only [hcursor] at hi
    by_cases hne : i = s.cursor.toNat
    · simp [hne]
    · rw [Memory.read_write_other _ hne]
      exact h.captured i (by omega)
  · simp only [hcursor]
    omega

/-- RD_PUSH closes the handshake and pushes, and ends the cycle if the buffer is full then (R156, R159). -/
theorem rdPush_cases (v : Sample) (s : State) :
    (isFull (push v { s with adcPending := false, adcStart := false }) = true ∧
      rdPush v s = terminate .complete (push v { s with adcPending := false, adcStart := false })) ∨
    (isFull (push v { s with adcPending := false, adcStart := false }) = false ∧
      rdPush v s = push v { s with adcPending := false, adcStart := false }) := by
  cases hfull : isFull (push v { s with adcPending := false, adcStart := false }) with
  | true => exact .inl ⟨rfl, if_pos hfull⟩
  | false => exact .inr ⟨rfl, if_neg (by simp [hfull])⟩

/-- Storing a sample in READING leaves a good running cycle if the buffer is not full then, and a good COMPLETE if it is
(R156). -/
theorem inv_push {s : State} (h : Inv s) (hs : s.state = .reading) (v : Sample) :
    (isFull (push v s) = false → Inv (push v s)) ∧ (isFull (push v s) = true → Inv (terminate .complete (push v s))) := by
  have hb : busy s.state = true := by rw [hs]; rfl
  have hroom := h.cursor_lt hb
  have hbuf := bufInv_push h.bufInv v hroom
  rw [push_of_room v hroom] at hbuf ⊢
  constructor <;> intro hfull
  · exact { hbuf, h with
      cursor_lt := fun _ => Nat.lt_of_le_of_ne hbuf.cursor_le (of_decide_eq_false hfull)
      priming := by simp [hs]
      before_reading := by simp [hs]
      complete_full := by simp [hs] }
  · exact RestInv.inv { hbuf, h with
      resting := rfl
      complete_full := fun _ => of_decide_eq_true hfull
      quiet := ⟨rfl, rfl, rfl, rfl, rfl⟩
      config_error := by simp [h.no_config_error hb] }

theorem inv_rdPush {s : State} (h : Inv s) (hs : s.state = .reading) (v : Sample) : Inv (rdPush v s) := by
  obtain ⟨hrun, hend⟩ := inv_push (inv_handshake h hs (pending := false) (start := false) id) hs v
  rcases rdPush_cases v s with ⟨hfull, e⟩ | ⟨hfull, e⟩ <;> rw [e]
  · exact hend hfull
  · exact hrun hfull

/-- READER's turn at a busy edge keeps the invariants, whichever operation it is. -/
theorem inv_readerPhase {s : State} (h : Inv s) (hb : busy s.state = true) (inp : PortSample) : Inv (readerPhase inp s) := by
  rcases readerPhase_cases inp s with ⟨_, e⟩ | ⟨_, hp, _, e⟩ | ⟨_, _, hr, e⟩ | ⟨_, _, e⟩ <;> rw [e]
  · exact inv_terminate h (h.no_config_error hb) rfl (fun hne => by cases hne)
  · exact inv_rdPush h (h.reading hb (.inr hp)) inp.adcData
  · exact inv_rdConsume h (h.reading hb (.inl hr))
  · exact inv_rdWait h

/-! ## TICK (R103, R110 to R112, R130) -/

theorem inv_tickAdvance {s : State} (h : Inv s) (ha : s.armed = true) (hne : s.tickCount.toNat + 1 ≠ s.tickCompare.toNat) :
    Inv (tickAdvance s) :=
  { h with
    tick_lt := fun _ => by
      have hlt := h.tick_lt ha
      have hmax := s.tickCompare.isLt
      have hsucc : (s.tickCount + 1).toNat = s.tickCount.toNat + 1 :=
        BitVec.toNat_add_of_lt (show s.tickCount.toNat + 1 < _ by omega)
      simp only [tickAdvance_tickCount, tickAdvance_tickCompare, hsucc]
      omega }

/-- Below the limit the count of clock periods has room to count (R16, R94). -/
theorem clockCount_succ_toNat {s : State} (hlt : s.clockCount.toNat < s.cycleLimitClocks.toNat) :
    (s.clockCount + 1).toNat = s.clockCount.toNat + 1 := by
  have hmax := s.cycleLimitClocks.isLt
  exact BitVec.toNat_add_of_lt (show s.clockCount.toNat + 1 < _ by omega)

theorem Inv.clockCount_lt {s : State} (h : Inv s) (hb : busy s.state = true) (hne : s.clockCount ≠ s.cycleLimitClocks) :
    s.clockCount.toNat < s.cycleLimitClocks.toNat :=
  Nat.lt_of_le_of_ne (h.count_le_limit hb) fun e => hne (BitVec.eq_of_toNat_eq e)

section
variable {s : State} (h : Inv s) (hb : busy s.state = true) (hnp : s.state ≠ .priming)
include h hb hnp

theorem inv_timeout : Inv { s with timeoutFlag := true } :=
  { h with
    priming_no_timeout := fun e => absurd e hnp
    config_error := by simp [h.no_config_error hb] }

theorem inv_countPeriod (hne : s.clockCount ≠ s.cycleLimitClocks) : Inv { s with clockCount := s.clockCount + 1 } :=
  have hlt := h.clockCount_lt hb hne
  have hsucc := clockCount_succ_toNat hlt
  { h with
    priming := fun e => absurd e hnp
    count_le_limit := fun _ => hsucc ▸ hlt
    ready_count := fun hr => hsucc ▸ Nat.le_succ_of_le (h.ready_count hr) }

theorem inv_syncEval : Inv (syncEval s) := by
  rcases syncEval_cases s with ⟨_, e⟩ | ⟨hreached, e⟩ <;> rw [e]
  · exact h
  · have hst : (if s.state = .integrating then CycleState.reading else s.state) = .reading := by
      rcases (busy_iff _).1 hb with e | e | e
      · exact absurd e hnp
      · simp [e]
      · simp [e]
    rw [hst]
    exact { h with
      armed_eq_busy := h.armed_of_busy hb
      cursor_lt := fun _ => h.cursor_lt hb
      config_valid := fun _ => h.config_valid hb
      clk_eq_phase := fun _ _ => h.clk_eq_phase hb hnp
      priming := by simp
      before_reading := by simp
      priming_no_timeout := by simp
      count_le_limit := fun _ => h.count_le_limit hb
      threshold := fun _ => h.threshold hb
      ready_count := fun _ => hreached
      complete_full := by simp
      rest := by simp [busy]
      config_error := by simp [h.no_config_error hb] }

/-- Completing a clock period past PRIMING keeps the invariants (R112 step 3). -/
theorem inv_completePeriod : Inv (completePeriod s) := by
  rcases completePeriod_cases s with ⟨_, e⟩ | ⟨hne, e⟩ <;> rw [e]
  · exact inv_timeout h hb hnp
  · exact inv_syncEval (inv_countPeriod h hb hnp hne) hb hnp

end

/-- What a firing does to the half-periods: the next one is `p`, with its level on `clk_out`, its interval in the timer and `trig`
on the trigger line (R104, R111, R112). -/
def turnPhase (p : Phase) (trig : Bool) (s : State) : State :=
  { s with
    clkOut := phaseBit p
    trigOut := trig
    clockPhase := p
    tickCount := 0
    tickCompare := match p with
      | .high => s.highTicks
      | .low => s.lowTicks }

theorem fireRise_eq_turnPhase (s : State) : fireRise s = turnPhase .high (trigAfterRise s) s := rfl

theorem fireFall_eq_turnPhase (s : State) : fireFall s = turnPhase .low (completePeriod s).trigOut (completePeriod s) := by
  rcases completePeriod_cases s with ⟨hc, e⟩ | ⟨hc, e⟩
  · rcases fireFall_cases s with ⟨_, e'⟩ | ⟨hne, _⟩ | ⟨hne, _⟩
    · rw [e, e']
      rfl
    · exact absurd hc hne
    · exact absurd hc hne
  · rcases fireFall_cases s with ⟨heq, _⟩ | ⟨_, hlt, e'⟩ | ⟨_, hle, e'⟩
    · exact absurd heq hc
    · rcases syncEval_cases { s with clockCount := s.clockCount + 1 } with ⟨_, e''⟩ | ⟨hle, _⟩
      · rw [e, e', e'']
        rfl
      · exact absurd hle (Nat.not_le_of_lt hlt)
    · rcases syncEval_cases { s with clockCount := s.clockCount + 1 } with ⟨hlt, _⟩ | ⟨_, e''⟩
      · exact absurd hle (Nat.not_le_of_lt hlt)
      · rw [e, e', e'']
        rfl

/-- The state after a firing at which nothing else changes it: the first firing leaves PRIMING (R110). -/
def afterFiring : CycleState → CycleState
  | .priming => .integrating
  | st => st

theorem leavePriming_eq (s : State) : leavePriming s = { s with state := afterFiring s.state } := by
  cases hs : s.state
  case priming => simp [leavePriming, afterFiring, hs]
  all_goals
    simp only [leavePriming, afterFiring, hs, reduceCtorEq, if_false]
    rw [← hs]

theorem busy_afterFiring (st : CycleState) : busy (afterFiring st) = busy st := by cases st <;> rfl

theorem afterFiring_ne_priming (st : CycleState) : afterFiring st ≠ .priming := by cases st <;> simp [afterFiring]

theorem afterFiring_eq_integrating {st : CycleState} (h : afterFiring st = .integrating) :
    st = .priming ∨ st = .integrating := by
  cases st <;> simp [afterFiring] at h ⊢

theorem afterFiring_eq_complete {st : CycleState} (h : afterFiring st = .complete) : st = .complete := by
  cases st <;> simp [afterFiring] at h ⊢

/-- Turning to the next half-period keeps the invariants of a running cycle, whatever the trigger line does. -/
theorem inv_turnPhase {s : State} (h : Inv s) (hb : busy s.state = true) (p : Phase) (trig : Bool) :
    Inv (leavePriming (turnPhase p trig s)) := by
  have hb' : busy (afterFiring s.state) = true := (busy_afterFiring _).trans hb
  have hne := afterFiring_ne_priming s.state
  obtain ⟨hhigh, hlow⟩ := halfTicks_pos h.params_legal (h.config_valid hb)
  rw [leavePriming_eq]
  exact { h with
    armed_eq_busy := (h.armed_of_busy hb).trans hb'.symm
    cursor_lt := fun _ => h.cursor_lt hb
    tick_lt := fun _ => by
      cases p
      · exact hlow
      · exact hhigh
    tick_compare := fun _ => by cases p <;> rfl
    config_valid := fun _ => h.config_valid hb
    clk_eq_phase := fun _ _ => rfl
    priming := fun e => absurd e hne
    before_reading := fun e => h.before_reading (e.elim (fun e => absurd e hne) afterFiring_eq_integrating)
    priming_no_timeout := fun e => absurd e hne
    count_le_limit := fun _ => h.count_le_limit hb
    threshold := fun _ => h.threshold hb
    complete_full := fun e => h.complete_full (afterFiring_eq_complete e)
    rest := fun e => by simp [turnPhase, hb'] at e
    config_error := by simp [turnPhase, h.no_config_error hb] }

theorem completePeriod_armed (s : State) : (completePeriod s).armed = s.armed := by
  rcases completePeriod_cases s with ⟨_, e⟩ | ⟨_, e⟩ <;> rw [e]
  rcases syncEval_cases { s with clockCount := s.clockCount + 1 } with ⟨_, e⟩ | ⟨_, e⟩ <;> rw [e]

/-- TICK's turn keeps the invariants, whichever of its four forms it has. -/
theorem inv_tickPhase {s : State} (h : Inv s) : Inv (tickPhase s) := by
  rcases tickPhase_cases s with ⟨_, e⟩ | ⟨ha, hne, e⟩ | ⟨ha, _, _, e⟩ | ⟨ha, _, hhigh, e⟩ <;> rw [e]
  · exact h
  · exact inv_tickAdvance h ha hne
  · rw [fireRise_eq_turnPhase]
    exact inv_turnPhase h (h.armed_eq_busy ▸ ha) .high _
  · have hb : busy s.state = true := h.armed_eq_busy ▸ ha
    have hc := inv_completePeriod h hb (h.not_priming hhigh)
    rw [fireFall_eq_turnPhase]
    exact inv_turnPhase hc (hc.armed_eq_busy ▸ (completePeriod_armed s).trans ha) .low _

/-! ## HOST (R180, R181, R151) -/

/-- Beginning a cycle with a valid configuration and cleared errors leaves a good PRIMING (R151). -/
theorem inv_beginCycle {s : State} (h : Inv s) (hc : configInvalid s = false) (htimeout : s.timeoutFlag = false)
    (hcfg : s.cfgErrFlag = false) : Inv (beginCycle s) :=
  have hlegal := h.params_legal
  { h with
    captured := by simp
    armed_eq_busy := rfl
    cursor_le := Nat.zero_le _
    cursor_lt := fun _ => hlegal.1
    tick_lt := fun _ => (halfTicks_pos hlegal hc).2
    tick_compare := fun _ => rfl
    config_valid := fun _ => hc
    clk_eq_phase := by simp
    priming := fun _ => ⟨rfl, rfl, rfl, rfl, rfl, rfl⟩
    before_reading := fun _ => ⟨rfl, rfl, rfl⟩
    priming_no_timeout := fun _ => htimeout
    count_le_limit := fun _ => Nat.zero_le _
    threshold := fun _ => thresholdOf_toNat hlegal
    ready_count := by simp
    complete_full := by simp
    rest := by simp [busy]
    request_pending := by simp
    config_error := by simp [hcfg] }

theorem inv_clearErrors {s : State} (h : Inv s) : Inv (clearErrors s) :=
  { h with
    priming_no_timeout := fun _ => rfl
    config_error := by simp
    no_capacity_error := rfl }

theorem inv_startCmd {s : State} (h : Inv s) (hb : busy s.state = false) : Inv (startCmd s) := by
  rcases startCmd_cases s with ⟨_, e⟩ | ⟨hc, e⟩ <;> rw [e]
  · exact RestInv.inv { (inv_clearErrors h).restInv hb with
      resting := rfl
      complete_full := by simp
      config_error := fun _ => ⟨rfl, rfl, rfl, rfl⟩ }
  · exact inv_beginCycle (inv_clearErrors h) hc rfl rfl

/-- The HOST's turn in a resting block: nothing a good resting block must meet reads a configuration register. -/
theorem inv_exec_resting {i : Instr} {s w : State} (h : Inv s) (hb : busy s.state = false) (hw : exec i s = .next w) :
    Inv w := by
  have hrest := h.restInv hb
  rcases exec_idle hb hw with ⟨r, rfl⟩ | ⟨v, _, rfl⟩ | ⟨v, _, rfl⟩ | ⟨v, _, rfl⟩ | ⟨v, _, rfl⟩ | ⟨_, rfl⟩
  · exact inv_answer h r
  · exact RestInv.inv { hrest with }
  · exact RestInv.inv { hrest with }
  · exact RestInv.inv { hrest with }
  · exact RestInv.inv { hrest with }
  · exact inv_answer (inv_startCmd h hb) _

/-! ## Every edge and every run -/

theorem inv_step {s t : State} (h : Inv s) (hst : step s = .next t) : Inv t := by
  by_cases hr : presented s = .reset
  · rw [step_reset hr hst]
    exact inv_reset h.params_legal _ _ _ _
  · cases hb : busy s.state with
    | true =>
      obtain ⟨r, rfl⟩ := step_busy hb hr hst
      exact inv_consumeInput (inv_tickPhase (inv_readerPhase (inv_answer h r) hb _))
    | false =>
      rcases step_resting hb hr hst with ⟨r, rfl⟩ | ⟨i, w, hw, rfl⟩
      · exact inv_consumeInput (inv_answer h r)
      · exact inv_consumeInput (inv_exec_resting h hb hw)

theorem inv_runsTo {k : Nat} {s t : State} (h : Inv s) (hrun : RunsTo k s t) : Inv t := by
  induction k generalizing s with
  | zero => exact runsTo_zero.1 hrun ▸ h
  | succ k ih =>
    obtain ⟨u, hstep, hrun⟩ := runsTo_succ.1 hrun
    exact ih (inv_step h hstep) hrun

/-- Settles O41: the edge is a reset, or READER and TICK on a busy block, or the HOST's turn on a resting one. -/
theorem everyEdgeKeepsInvariants : Obligations.EveryEdgeKeepsInvariants := fun _ _ => inv_step

/-- Settles O40: the reset state rests, and the OPEN parameters are legal whatever they are. -/
theorem resetStateMeetsInvariants : Obligations.ResetStateMeetsInvariants := inv_reset config_params_legal _ _ _ _

/-- Settles O42, by induction on the number of edges. -/
theorem reachableStatesMeetInvariants : Obligations.ReachableStatesMeetInvariants :=
  fun _ l _ _ hp hrun => inv_runsTo (inv_reset hp none l 0 0) hrun

/-! ## The count of clock periods (R16) -/

@[simp] theorem push_clockCount (v : Sample) (s : State) : (push v s).clockCount = s.clockCount := by
  rcases push_cases v s with ⟨_, e⟩ | ⟨_, e⟩ <;> rw [e]

@[simp] theorem push_cycleLimitClocks (v : Sample) (s : State) : (push v s).cycleLimitClocks = s.cycleLimitClocks := by
  rcases push_cases v s with ⟨_, e⟩ | ⟨_, e⟩ <;> rw [e]

@[simp] theorem rdPush_clockCount (v : Sample) (s : State) : (rdPush v s).clockCount = s.clockCount := by
  rcases rdPush_cases v s with ⟨_, e⟩ | ⟨_, e⟩ <;> simp [e]

@[simp] theorem rdPush_cycleLimitClocks (v : Sample) (s : State) : (rdPush v s).cycleLimitClocks = s.cycleLimitClocks := by
  rcases rdPush_cases v s with ⟨_, e⟩ | ⟨_, e⟩ <;> simp [e]

theorem readerPhase_clockCount (inp : PortSample) (s : State) : (readerPhase inp s).clockCount = s.clockCount := by
  rcases readerPhase_cases inp s with ⟨_, e⟩ | ⟨_, _, _, e⟩ | ⟨_, _, _, e⟩ | ⟨_, _, e⟩ <;> simp [e]

theorem readerPhase_cycleLimitClocks (inp : PortSample) (s : State) :
    (readerPhase inp s).cycleLimitClocks = s.cycleLimitClocks := by
  rcases readerPhase_cases inp s with ⟨_, e⟩ | ⟨_, _, _, e⟩ | ⟨_, _, _, e⟩ | ⟨_, _, e⟩ <;> simp [e]

@[simp] theorem leavePriming_clockCount (s : State) : (leavePriming s).clockCount = s.clockCount := by rw [leavePriming_eq]

/-- Only FIRE_FALL counts, by one and only below the limit (R112). -/
theorem tickPhase_clockCount (s : State) :
    (tickPhase s).clockCount = s.clockCount ∨
    (s.clockCount ≠ s.cycleLimitClocks ∧ (tickPhase s).clockCount = s.clockCount + 1) := by
  rcases tickPhase_cases s with ⟨_, e⟩ | ⟨_, _, e⟩ | ⟨_, _, _, e⟩ | ⟨_, _, _, e⟩
  · exact .inl (by rw [e])
  · exact .inl (by rw [e, tickAdvance_clockCount])
  · exact .inl (by rw [e, leavePriming_clockCount, fireRise_clockCount])
  · rw [e, leavePriming_clockCount]
    rcases fireFall_cases s with ⟨_, e⟩ | ⟨hne, _, e⟩ | ⟨hne, _, e⟩
    · exact .inl (by rw [e])
    · exact .inr ⟨hne, by rw [e]⟩
    · exact .inr ⟨hne, by rw [e]⟩

/-- Settles O27: below the limit the count has room for one more, so the sum does not wrap. -/
theorem clockCountGrowsByOne : Obligations.ClockCountGrowsByOne := by
  intro s t h hb hr hst
  obtain ⟨r, rfl⟩ := step_busy hb hr hst
  have htick := tickPhase_clockCount (readerPhase (nextInput s) { s with resp := r })
  rw [readerPhase_clockCount, readerPhase_cycleLimitClocks] at htick
  rw [consumeInput_clockCount]
  rcases htick with e | ⟨hne, e⟩ <;> rw [e]
  · exact ⟨.inl rfl, h.count_le_limit hb⟩
  · have hlt := h.clockCount_lt hb hne
    have hsucc := clockCount_succ_toNat hlt
    exact ⟨.inr hsucc, hsucc ▸ hlt⟩

/-! ## The conversion request (R33) -/

@[simp] theorem push_adcStart (v : Sample) (s : State) : (push v s).adcStart = s.adcStart := by
  rcases push_cases v s with ⟨_, e⟩ | ⟨_, e⟩ <;> rw [e]

@[simp] theorem rdPush_adcStart (v : Sample) (s : State) : (rdPush v s).adcStart = false := by
  rcases rdPush_cases v s with ⟨_, e⟩ | ⟨_, e⟩ <;> simp [e]

/-- READER drives `adc_start` at every busy edge, to 1 by RD_CONSUME only (R154 to R158). -/
theorem readerPhase_adcStart (inp : PortSample) (s : State) :
    (readerPhase inp s).adcStart = true ↔
      s.timeoutFlag = false ∧ s.adcPending = false ∧ s.sampleReadyFlag = true := by
  rcases readerPhase_cases inp s with ⟨ht, e⟩ | ⟨_, hp, _, e⟩ | ⟨ht, hp, hr, e⟩ | ⟨_, hwait, e⟩
  · simp [e, ht]
  · simp [e, hp]
  · simp [e, ht, hp, hr]
  · rcases hwait with ⟨hp, _⟩ | ⟨_, hr⟩
    · simp [e, hp]
    · simp [e, hr]

@[simp] theorem leavePriming_adcStart (s : State) : (leavePriming s).adcStart = s.adcStart := by rw [leavePriming_eq]

@[simp] theorem fireFall_adcStart (s : State) : (fireFall s).adcStart = s.adcStart := by
  rcases fireFall_cases s with ⟨_, e⟩ | ⟨_, _, e⟩ | ⟨_, _, e⟩ <;> rw [e]

@[simp] theorem tickPhase_adcStart (s : State) : (tickPhase s).adcStart = s.adcStart := by
  rcases tickPhase_cases s with ⟨_, e⟩ | ⟨_, _, e⟩ | ⟨_, _, _, e⟩ | ⟨_, _, _, e⟩ <;> simp [e]

/-- The HOST's turn never raises `adc_start`; START clears it (R151). -/
theorem exec_resting_adcStart {i : Instr} {s w : State} (hb : busy s.state = false) (hs : s.adcStart = false)
    (hw : exec i s = .next w) : w.adcStart = false := by
  rcases exec_idle hb hw with ⟨_, rfl⟩ | ⟨_, _, rfl⟩ | ⟨_, _, rfl⟩ | ⟨_, _, rfl⟩ | ⟨_, _, rfl⟩ | ⟨_, rfl⟩
  case inr.inr.inr.inr.inr => rcases startCmd_cases s with ⟨_, e⟩ | ⟨_, e⟩ <;> simp [e, hs]
  all_goals exact hs

/-- Settles O32: at a busy edge READER drives the line and TICK leaves it; a resting block has it at 0 and the HOST never raises
it. -/
theorem conversionRequestPulse : Obligations.ConversionRequestPulse := by
  refine ⟨rfl, fun s t h hst => ?_⟩
  cases hrst : (nextInput s).rst with
  | true =>
    rw [step_reset ((presented_eq_reset_iff s).2 hrst) hst]
    simp [resetEdge, State.reset]
  | false =>
    have hr : presented s ≠ .reset := by simp [presented_eq_reset_iff, hrst]
    cases hb : busy s.state with
    | true =>
      obtain ⟨r, rfl⟩ := step_busy hb hr hst
      simp [readerPhase_adcStart]
    | false =>
      obtain ⟨_, _, hs, _⟩ := h.rest hb
      rcases step_resting hb hr hst with ⟨r, rfl⟩ | ⟨i, w, hw, rfl⟩
      · simp [hs]
      · simp [exec_resting_adcStart hb hs hw]

end Sys2Proof.Machine
end

section
/-! PROOFS. Who writes which state element (R57): what READER and TICK leave alone, what the entries of `buf` read as after each
operation, that a read of the host is answered from the pre-edge state and changes nothing.  Then the statements of this family. -/

namespace Sys2Proof.Machine

theorem presented_ne_reset {s : State} (h : (nextInput s).rst = false) : presented s ≠ .reset := by
  simp [presented_eq_reset_iff, h]

/-! ## Frames of the agents of a busy edge (R57) -/

/-- TICK writes ten state elements and no other, whichever of its four forms it has (R102, R110 to R112, R130). -/
theorem tickPhase_frame (s : State) :
    tickPhase s = { s with
      clockCount := (tickPhase s).clockCount, clockPhase := (tickPhase s).clockPhase
      sampleReadyFlag := (tickPhase s).sampleReadyFlag, tickCount := (tickPhase s).tickCount
      tickCompare := (tickPhase s).tickCompare, state := (tickPhase s).state, overrunFlag := (tickPhase s).overrunFlag
      timeoutFlag := (tickPhase s).timeoutFlag, clkOut := (tickPhase s).clkOut, trigOut := (tickPhase s).trigOut } := by
  rcases tickPhase_cases s with ⟨_, e⟩ | ⟨_, _, e⟩ | ⟨_, _, _, e⟩ | ⟨_, _, _, e⟩
  · rw [e]
  · rw [e]
    rfl
  · rw [e, leavePriming_eq]
    rfl
  · rw [e, leavePriming_eq]
    rcases fireFall_cases s with ⟨_, e⟩ | ⟨_, _, e⟩ | ⟨_, _, e⟩ <;> rw [e]

/-- `Push` writes the memory, the cursor and the capacity flag (R141). -/
theorem push_frame (v : Sample) (s : State) :
    push v s = { s with buf := (push v s).buf, cursor := (push v s).cursor, capErrFlag := (push v s).capErrFlag } := by
  rcases push_cases v s with ⟨_, e⟩ | ⟨_, e⟩ <;> rw [e]

/-- READER writes ten state elements and no other, whichever operation it runs (R154 to R160). -/
theorem readerPhase_frame (inp : PortSample) (s : State) :
    readerPhase inp s = { s with
      sampleReadyFlag := (readerPhase inp s).sampleReadyFlag, buf := (readerPhase inp s).buf
      cursor := (readerPhase inp s).cursor, capErrFlag := (readerPhase inp s).capErrFlag
      armed := (readerPhase inp s).armed, state := (readerPhase inp s).state
      adcPending := (readerPhase inp s).adcPending, adcStart := (readerPhase inp s).adcStart
      clkOut := (readerPhase inp s).clkOut, trigOut := (readerPhase inp s).trigOut } := by
  rcases readerPhase_cases inp s with ⟨_, e⟩ | ⟨_, _, _, e⟩ | ⟨_, _, _, e⟩ | ⟨_, _, e⟩
  case inr.inl =>
    rw [e]
    rcases rdPush_cases inp.adcData s with ⟨_, e⟩ | ⟨_, e⟩
    · rw [e, push_frame]
      rfl
    · rw [e, push_frame]
  all_goals
    rw [e]
    rfl

/-! ## The configuration of a running cycle (R55) -/

/-- The four configuration registers and the threshold of `t` are those of `s`. -/
def SameConfiguration (s t : State) : Prop :=
  t.highTicks = s.highTicks ∧ t.lowTicks = s.lowTicks ∧ t.trigHighClocks = s.trigHighClocks ∧
    t.cycleLimitClocks = s.cycleLimitClocks ∧ t.readThresholdClock = s.readThresholdClock

theorem SameConfiguration.trans {s t u : State} (hst : SameConfiguration s t) (htu : SameConfiguration t u) :
    SameConfiguration s u := by
  obtain ⟨hhigh, hlow, htrig, hlimit, hthr⟩ := htu
  obtain ⟨hhigh', hlow', htrig', hlimit', hthr'⟩ := hst
  exact ⟨hhigh.trans hhigh', hlow.trans hlow', htrig.trans htrig', hlimit.trans hlimit', hthr.trans hthr'⟩

theorem sameConfiguration_tickPhase (s : State) : SameConfiguration s (tickPhase s) := by
  rw [tickPhase_frame]
  exact ⟨rfl, rfl, rfl, rfl, rfl⟩

theorem sameConfiguration_readerPhase (inp : PortSample) (s : State) : SameConfiguration s (readerPhase inp s) := by
  rw [readerPhase_frame]
  exact ⟨rfl, rfl, rfl, rfl, rfl⟩

/-- Settles O36: at a busy edge the HOST only answers, and neither READER nor TICK writes a configuration register. -/
theorem configurationFrozenWhileBusy : Obligations.ConfigurationFrozenWhileBusy := by
  intro s t hb hrst hst
  obtain ⟨r, rfl⟩ := step_busy hb (presented_ne_reset hrst) hst
  exact (sameConfiguration_readerPhase (nextInput s) { s with resp := r }).trans (sameConfiguration_tickPhase _)

/-! ## The entries of the sample memory (R20, R145) -/

/-- `Push` stores at the cursor if the buffer has room and leaves every other entry alone (R141). -/
theorem bufEntry_push (v : Sample) (s : State) (i : Nat) :
    bufEntry (push v s) i =
      if s.cursor.toNat ≠ s.params.pixelCount ∧ i = s.cursor.toNat then truncateSample s.params.sampleBits v
      else bufEntry s i := by
  rcases push_cases v s with ⟨hfull, e⟩ | ⟨hroom, e⟩
  · rw [e, if_neg fun ⟨hroom, _⟩ => hroom hfull]
    rfl
  · by_cases hi : i = s.cursor.toNat
    · rw [e, if_pos ⟨hroom, hi⟩]
      simp [bufEntry, hi]
    · rw [e, if_neg fun ⟨_, h⟩ => hi h]
      simp [bufEntry, Memory.read_write_other _ hi]

theorem bufEntry_rdPush (v : Sample) (s : State) (i : Nat) :
    bufEntry (rdPush v s) i =
      if s.cursor.toNat ≠ s.params.pixelCount ∧ i = s.cursor.toNat then truncateSample s.params.sampleBits v
      else bufEntry s i := by
  rcases rdPush_cases v s with ⟨_, e⟩ | ⟨_, e⟩ <;> rw [e]
  · exact bufEntry_push v { s with adcPending := false, adcStart := false } i
  · exact bufEntry_push v { s with adcPending := false, adcStart := false } i

/-- READER changes an entry only by RD_PUSH (R154, R156). -/
theorem bufEntry_readerPhase (inp : PortSample) (s : State) (i : Nat) :
    bufEntry (readerPhase inp s) i =
      if s.timeoutFlag = false ∧ s.adcPending = true ∧ inp.adcDone = true ∧
          s.cursor.toNat ≠ s.params.pixelCount ∧ i = s.cursor.toNat then
        truncateSample s.params.sampleBits inp.adcData
      else bufEntry s i := by
  rcases readerPhase_cases inp s with ⟨ht, e⟩ | ⟨ht, hp, hd, e⟩ | ⟨_, hp, _, e⟩ | ⟨_, hwait, e⟩ <;> rw [e]
  · simp only [ht, reduceCtorEq, false_and, if_false]
    rfl
  · simp only [ht, hp, hd, true_and, bufEntry_rdPush]
  · simp only [hp, reduceCtorEq, false_and, and_false, if_false]
    rfl
  · rw [if_neg]
    · rfl
    · rintro ⟨_, hp, hd, _⟩
      simp [hp, hd] at hwait

theorem bufEntry_tickPhase (s : State) (i : Nat) : bufEntry (tickPhase s) i = bufEntry s i := by
  rw [tickPhase_frame]
  rfl

/-- The HOST writes no entry: START resets the cursor, not the memory (R140, R151). -/
theorem bufEntry_exec_resting {i : Instr} {s w : State} (hb : busy s.state = false) (hw : exec i s = .next w) (k : Nat) :
    bufEntry w k = bufEntry s k := by
  rcases exec_idle hb hw with ⟨_, rfl⟩ | ⟨_, _, rfl⟩ | ⟨_, _, rfl⟩ | ⟨_, _, rfl⟩ | ⟨_, _, rfl⟩ | ⟨_, rfl⟩
  case inr.inr.inr.inr.inr =>
    rcases startCmd_cases s with ⟨_, e⟩ | ⟨_, e⟩ <;> rw [e] <;> rfl
  all_goals rfl

/-- Settles O33: at a busy edge only READER's RD_PUSH writes an entry, and a resting block's HOST writes none. -/
theorem bufferWrittenOnlyByPush : Obligations.BufferWrittenOnlyByPush := by
  intro s t hrst hst i
  have hused (w : State) : bufEntry (consumeInput w) i = bufEntry w i := rfl
  cases hb : busy s.state with
  | true =>
    obtain ⟨r, rfl⟩ := step_busy hb (presented_ne_reset hrst) hst
    simp only [hused, bufEntry_tickPhase, true_and]
    exact bufEntry_readerPhase (nextInput s) { s with resp := r } i
  | false =>
    simp only [reduceCtorEq, false_and, if_false]
    rcases step_resting hb (presented_ne_reset hrst) hst with ⟨r, rfl⟩ | ⟨_, w, hw, rfl⟩
    · rfl
    · exact (hused w).trans (bufEntry_exec_resting hb hw i)

/-! ## RD_CONSUME and a set on the same edge (R53) -/

theorem readerPhase_eq_rdConsume (inp : PortSample) {s : State} (ht : s.timeoutFlag = false) (hp : s.adcPending = false)
    (hr : s.sampleReadyFlag = true) : readerPhase inp s = rdConsume s := by
  simp [readerPhase, ht, hp, hr]

theorem tickPhase_eq_fireFall {s : State} (ha : s.armed = true) (hmatch : s.tickCount.toNat + 1 = s.tickCompare.toNat)
    (hp : s.clockPhase = .high) : tickPhase s = leavePriming (fireFall s) := by
  simp [tickPhase, ha, compareMatch, hmatch, fire, hp]

/-- Settles O30: RD_CONSUME clears the flag before FIRE_FALL looks at it, so the set finds it clear and records no overrun. -/
theorem collisionSetWins : Obligations.CollisionSetWins := by
  intro s hrst hb ha ht hp hready hphase hmatch hne hreached
  obtain ⟨t, hst⟩ := step_next s
  obtain ⟨r, e⟩ := step_busy hb (presented_ne_reset hrst) hst
  rw [readerPhase_eq_rdConsume _ (s := { s with resp := r }) ht hp hready,
    tickPhase_eq_fireFall (s := rdConsume { s with resp := r }) ha hmatch hphase, leavePriming_eq] at e
  rcases fireFall_cases (rdConsume { s with resp := r }) with ⟨heq, _⟩ | ⟨_, hlt, _⟩ | ⟨_, _, hset⟩
  · exact absurd heq hne
  · exact absurd hreached (Nat.not_le_of_lt hlt)
  · rw [hset] at e
    refine ⟨t, hst, ?_⟩
    rw [e]
    exact ⟨rfl, rfl, rfl, Bool.or_false _, rfl, rfl⟩

/-! ## Reads of the host (R47) -/

theorem writeWord_write_bit (a : Addr) (d : Word) : (writeWord a d).getLsbD 31 = true := by
  rw [writeWord, Laws.OpcodeRow.ofFields_getLsbD]
  rfl

/-- An instruction with `W = 0` reads a register or a buffer entry (R62, R78). -/
theorem exec_of_read {i : Instr} (h : (encodeWord i).getLsbD 31 = false) :
    (∃ r, ∀ s, exec i s = .next (readReg r s)) ∨ ∃ k, i = .rdBuf k := by
  cases i
  case rdId => exact .inl ⟨.id, fun _ => rfl⟩
  case rdCtrl => exact .inl ⟨.ctrl, fun _ => rfl⟩
  case rdStatus => exact .inl ⟨.status, fun _ => rfl⟩
  case rdHighTicks => exact .inl ⟨.highTicks, fun _ => rfl⟩
  case rdLowTicks => exact .inl ⟨.lowTicks, fun _ => rfl⟩
  case rdTrigHighClocks => exact .inl ⟨.trigHighClocks, fun _ => rfl⟩
  case rdCycleLimitClocks => exact .inl ⟨.cycleLimitClocks, fun _ => rfl⟩
  case rdClockCount => exact .inl ⟨.clockCount, fun _ => rfl⟩
  case rdReadThresholdLo => exact .inl ⟨.readThresholdLo, fun _ => rfl⟩
  case rdReadThresholdHi => exact .inl ⟨.readThresholdHi, fun _ => rfl⟩
  case rdCursor => exact .inl ⟨.cursor, fun _ => rfl⟩
  case rdTickCount => exact .inl ⟨.tickCount, fun _ => rfl⟩
  case rdTickCompare => exact .inl ⟨.tickCompare, fun _ => rfl⟩
  case rdPixelCount => exact .inl ⟨.pixelCount, fun _ => rfl⟩
  case rdPipelineLatency => exact .inl ⟨.pipelineLatency, fun _ => rfl⟩
  case rdBuf k => exact .inr ⟨k, rfl⟩
  all_goals
    rw [encodeWord, writeWord_write_bit] at h
    cases h

/-- No register of R64 shows the answer of the latest edge. -/
theorem regValue_respond (d : Word) (e : Bool) (s : State) (r : Reg) : regValue (respond d e s) r = regValue s r := by
  cases r <;> rfl

theorem readReg_respond (r : Reg) (d : Word) (e : Bool) (s : State) : readReg r (respond d e s) = readReg r s := by
  rw [readReg, regValue_respond]
  rfl

theorem execRdBuf_respond (k : BufIndex) (d : Word) (e : Bool) (s : State) : execRdBuf k (respond d e s) = execRdBuf k s := rfl

/-- RD_BUF answers and does nothing else, whether or not its index names an entry (R197; log 8). -/
theorem execRdBuf_answers (k : BufIndex) (s : State) : ∃ d e, execRdBuf k s = .next (respond d e s) := by
  by_cases hk : k.toNat < s.params.pixelCount
  · exact ⟨bufWord s k, false, by rw [execRdBuf, if_pos hk]⟩
  · exact ⟨0, true, by rw [execRdBuf, if_neg hk, refuse]⟩

/-- Settles O13: a read answers from elements the answer itself is not among, so the second answer is the first. -/
theorem readsChangeNothing : Obligations.ReadsChangeNothing := by
  intro s i h
  rcases exec_of_read h with ⟨r, hr⟩ | ⟨k, rfl⟩
  · exact ⟨readReg r s, hr s, rfl, (hr _).trans (congrArg _ (readReg_respond r _ _ s))⟩
  · obtain ⟨d, e, hanswer⟩ := execRdBuf_answers k s
    exact ⟨respond d e s, hanswer, rfl, (execRdBuf_respond k d e s).trans hanswer⟩

end Sys2Proof.Machine
end

section
/-! PROOFS. The command words (R61, R78, R80): the fields of a word, the four forms of a word that decodes (`DecodesTo`), the row of
the opcode table each form lies in, which words share a row; then the statements of this family. -/

namespace Sys2Proof

open Machine Laws.OpcodeRow

/-! ## The fields of a command word (R61) -/

@[simp] theorem isWrite_ofFields (w : Bool) (r : BitVec 5) (a : Addr) (d : Word) :
    CmdWord.isWrite (CmdWord.ofFields w r a d) = w := by
  simp only [CmdWord.isWrite, CmdWord.ofFields, BitVec.getLsbD_append]
  simp

@[simp] theorem rsv_ofFields (w : Bool) (r : BitVec 5) (a : Addr) (d : Word) :
    CmdWord.rsv (CmdWord.ofFields w r a d) = r := by
  apply BitVec.eq_of_getLsbD_eq
  intro k hk
  rw [CmdWord.rsv, CmdWord.ofFields, BitVec.getLsbD_extractLsb', BitVec.getLsbD_append, BitVec.getLsbD_append,
    BitVec.getLsbD_append]
  interval_cases k <;> rfl

@[simp] theorem addr_ofFields (w : Bool) (r : BitVec 5) (a : Addr) (d : Word) :
    CmdWord.addr (CmdWord.ofFields w r a d) = a := by
  apply BitVec.eq_of_getLsbD_eq
  intro k hk
  simp only [CmdWord.addr, CmdWord.ofFields, BitVec.getLsbD_extractLsb', BitVec.getLsbD_append]
  simp [hk]

@[simp] theorem data_ofFields (w : Bool) (r : BitVec 5) (a : Addr) (d : Word) :
    CmdWord.data (CmdWord.ofFields w r a d) = d := by
  apply BitVec.eq_of_getLsbD_eq
  intro k hk
  simp only [CmdWord.data, CmdWord.ofFields, BitVec.getLsbD_extractLsb', BitVec.getLsbD_append]
  simp [hk]

/-- A command word is nothing but its four fields. -/
theorem ofFields_eta (c : CmdWord) :
    CmdWord.ofFields (CmdWord.isWrite c) (CmdWord.rsv c) (CmdWord.addr c) (CmdWord.data c) = c := by
  apply BitVec.eq_of_getLsbD_eq
  intro k hk
  simp only [CmdWord.ofFields, CmdWord.isWrite, CmdWord.rsv, CmdWord.addr, CmdWord.data, BitVec.getLsbD_append,
    BitVec.getLsbD_extractLsb']
  interval_cases k <;> simp

/-! ## The two halves of the address space (R42, R62) -/

@[simp] theorem inBufferWindow_bufferAddr (k : BufIndex) : inBufferWindow (bufferAddr k) = true := by
  rw [inBufferWindow, bufferAddr, BitVec.getLsbD_append]
  rfl

@[simp] theorem bufferIndex_bufferAddr (k : BufIndex) : bufferIndex (bufferAddr k) = k := by
  apply BitVec.eq_of_getLsbD_eq
  intro b hb
  simp only [bufferIndex, bufferAddr, BitVec.getLsbD_extractLsb', BitVec.getLsbD_append]
  simp [hb]

/-- An address of the buffer window is that of the entry its index names. -/
theorem bufferAddr_bufferIndex {a : Addr} (h : inBufferWindow a = true) : bufferAddr (bufferIndex a) = a := by
  apply BitVec.eq_of_getLsbD_eq
  intro b hb
  rw [bufferAddr, bufferIndex, BitVec.getLsbD_append, BitVec.getLsbD_extractLsb']
  by_cases h9 : b < 9
  · simp [h9]
  · obtain rfl : b = 9 := by omega
    simpa [inBufferWindow] using h.symm

/-- The registers of R64 lie in the register half of the address space. -/
theorem inBufferWindow_of_le {a : Addr} (h : a.toNat ≤ 14) : inBufferWindow a = false :=
  Nat.testBit_lt_two_pow (show a.toNat < 2 ^ 9 by omega)

/-! ## Decoding in the register half (R64, R78) -/

theorem addr_eq_of_toNat_eq {a : Addr} {k : Nat} (h : a.toNat = k) : a = BitVec.ofNat 10 k := by
  rw [← h, BitVec.ofNat_toNat, BitVec.setWidth_eq]

/-- A register read that decodes is encoded as the read of that address and lies in its row. -/
theorem decodeRead_ok {a : Addr} {i : Instr} (h : decodeRead a = .ok i) :
    a.toNat ≤ 14 ∧ encodeWord i = readWord a ∧ opcodeRow i = (readWord a, 0xFFFF0000) := by
  unfold decodeRead at h
  split at h
  case h_16 => cases h
  all_goals
    rename_i haddr
    obtain rfl := addr_eq_of_toNat_eq haddr
    cases h
    exact ⟨by decide, rfl, rfl⟩

/-- A register write that decodes is a CTRL write, or keeps its `DATA` and lies in the row of its address. -/
theorem decodeWrite_ok {a : Addr} {d : Word} {i : Instr} (h : decodeWrite a d = .ok i) :
    a.toNat ≤ 14 ∧
      (a = 0x001 ∨ a ≠ 0x001 ∧ encodeWord i = writeWord a d ∧ opcodeRow i = (writeWord a 0, 0xFFFF0000)) := by
  unfold decodeWrite at h
  split at h
  case h_2 haddr => exact ⟨by omega, .inl (BitVec.eq_of_toNat_eq haddr)⟩
  case h_16 => cases h
  all_goals
    rename_i haddr
    obtain rfl := addr_eq_of_toNat_eq haddr
    cases h
    exact ⟨by decide, .inr ⟨by decide, rfl, rfl⟩⟩

/-- Whether a register write decodes does not depend on its `DATA` (R62, R79). -/
theorem decodeWrite_of_le {a : Addr} (h : a.toNat ≤ 14) (d : Word) : ∃ i, decodeWrite a d = .ok i := by
  unfold decodeWrite
  generalize a.toNat = k at h
  interval_cases k
  on_goal 2 => cases d.getLsbD 0 <;> exact ⟨_, rfl⟩
  all_goals exact ⟨_, rfl⟩

/-! ## The words that decode (R78) -/

/-- A CTRL write is one of two operations, told apart by `DATA[0]` alone (R62). -/
theorem decodeWrite_ctrl (d : Word) : decodeWrite 0x001 d = .ok (if d.getLsbD 0 then .start else .wrCtrlNop) := by
  cases hd : d.getLsbD 0 <;> simp only [decodeWrite, hd] <;> rfl

/-- The four forms of a word that stands for the operation `i`: `RSV = 0`, and an access to a buffer entry or to a register. -/
inductive DecodesTo (n : Nat) : CmdWord → Instr → Prop where
  | readBuf (k : BufIndex) (d : Word) (hk : k.toNat < n) : DecodesTo n (CmdWord.ofFields false 0 (bufferAddr k) d) (.rdBuf k)
  | writeBuf (k : BufIndex) (d : Word) (hk : k.toNat < n) : DecodesTo n (writeWord (bufferAddr k) d) (.wrBuf k d)
  | readReg (a : Addr) (d : Word) {i : Instr} (h : decodeRead a = .ok i) : DecodesTo n (CmdWord.ofFields false 0 a d) i
  | writeReg (a : Addr) (d : Word) {i : Instr} (h : decodeWrite a d = .ok i) : DecodesTo n (writeWord a d) i

/-- The decoder on a word given by its fields, the reserved ones zero. -/
theorem decodeWord_ofFields (n : Nat) (w : Bool) (a : Addr) (d : Word) :
    decodeWord n (CmdWord.ofFields w 0 a d) =
      if inBufferWindow a then
        if n ≤ (bufferIndex a).toNat then .error .bufferIndex
        else if w then .ok (.wrBuf (bufferIndex a) d) else .ok (.rdBuf (bufferIndex a))
      else if w then decodeWrite a d else decodeRead a := by
  simp [decodeWord]

theorem decodeWord_bufferAddr {n : Nat} {k : BufIndex} (hk : k.toNat < n) (w : Bool) (d : Word) :
    decodeWord n (CmdWord.ofFields w 0 (bufferAddr k) d) = if w then .ok (.wrBuf k d) else .ok (.rdBuf k) := by
  rw [decodeWord_ofFields, if_pos (inBufferWindow_bufferAddr k), bufferIndex_bufferAddr, if_neg (Nat.not_le_of_lt hk)]

theorem decodeWord_register {a : Addr} (ha : a.toNat ≤ 14) (n : Nat) (w : Bool) (d : Word) :
    decodeWord n (CmdWord.ofFields w 0 a d) = if w then decodeWrite a d else decodeRead a := by
  rw [decodeWord_ofFields, inBufferWindow_of_le ha, if_neg Bool.false_ne_true]

theorem DecodesTo.decodeWord_eq {n : Nat} {c : CmdWord} {i : Instr} (h : DecodesTo n c i) : decodeWord n c = .ok i := by
  cases h with
  | readBuf k d hk => exact decodeWord_bufferAddr hk false d
  | writeBuf k d hk => exact decodeWord_bufferAddr hk true d
  | readReg a d h => exact (decodeWord_register (decodeRead_ok h).1 n false d).trans h
  | writeReg a d h => exact (decodeWord_register (decodeWrite_ok h).1 n true d).trans h

theorem decodesTo_of_decodeWord {n : Nat} {c : CmdWord} {i : Instr} (h : decodeWord n c = .ok i) : DecodesTo n c i := by
  obtain ⟨w, r, a, d, rfl⟩ : ∃ w r a d, c = CmdWord.ofFields w r a d := ⟨_, _, _, _, (ofFields_eta c).symm⟩
  by_cases hr : r = 0
  · subst hr
    rw [decodeWord_ofFields] at h
    split at h
    case isTrue hwin =>
      split at h
      · cases h
      · rename_i hk
        rw [← bufferAddr_bufferIndex hwin]
        cases w <;> cases h
        · exact .readBuf _ d (Nat.lt_of_not_le hk)
        · exact .writeBuf _ d (Nat.lt_of_not_le hk)
    case isFalse =>
      cases w
      · exact .readReg a d h
      · exact .writeReg a d h
  · rw [decodeWord, rsv_ofFields, if_pos hr] at h
    cases h

/-! ## Round trips (R80) -/

/-- Each constructor of `Instr` is encoded at an address the decoder maps back to that constructor. -/
theorem decodesTo_encodeWord {n : Nat} {i : Instr} (h : i.wellFormed n = true) : DecodesTo n (encodeWord i) i := by
  cases i with
  | rdBuf k => exact .readBuf k 0 (of_decide_eq_true h)
  | wrBuf k d => exact .writeBuf k d (of_decide_eq_true h)
  | rdId | rdCtrl | rdStatus | rdHighTicks | rdLowTicks | rdTrigHighClocks | rdCycleLimitClocks | rdClockCount
  | rdReadThresholdLo | rdReadThresholdHi | rdCursor | rdTickCount | rdTickCompare | rdPixelCount | rdPipelineLatency =>
    exact .readReg _ 0 rfl
  | start | wrCtrlNop => exact .writeReg 0x001 _ rfl
  | wrHighTicks d | wrLowTicks d | wrTrigHighClocks d | wrCycleLimitClocks d | wrRoId d | wrRoStatus d | wrRoClockCount d
  | wrRoReadThresholdLo d | wrRoReadThresholdHi d | wrRoCursor d | wrRoTickCount d | wrRoTickCompare d | wrRoPixelCount d
  | wrRoPipelineLatency d => exact .writeReg _ d rfl

/-- Settles O44: the word of each instruction has the form `DecodesTo` gives that instruction. -/
theorem decodeOfEncode : Obligations.DecodeOfEncode := by
  intro n i h
  rw [encode, List.map_singleton, (decodesTo_encodeWord h).decodeWord_eq]

/-- A canonical read has `DATA = 0` (R80). -/
theorem data_eq_zero_of_canonical_read {r : BitVec 5} {a : Addr} {d : Word}
    (h : (CmdWord.ofFields false r a d).getLsbD 31 = false → (CmdWord.ofFields false r a d).setWidth 16 = 0#16) : d = 0 := by
  have hzero := h (isWrite_ofFields false r a d)
  rwa [BitVec.setWidth_eq_extractLsb' (by omega), ← CmdWord.data, data_ofFields] at hzero

/-- The `DATA` of a canonical CTRL write is its bit 0 (R80). -/
theorem data_eq_bit_of_canonical_ctrl {a : Addr} {d : Word} (h : (writeWord a d).extractLsb' 1 15 = 0#15) :
    d = if d.getLsbD 0 then 1 else 0 := by
  have hhigh : ∀ k, k < 15 → d.getLsbD (1 + k) = false := fun k hk => by
    have hbit := congrArg (·.getLsbD k) h
    simp only [writeWord, BitVec.getLsbD_extractLsb', ofFields_getLsbD, if_pos (show 1 + k < 16 by omega)] at hbit
    simpa [hk] using hbit
  apply BitVec.eq_of_getLsbD_eq
  intro k hk
  cases k with
  | zero => cases d.getLsbD 0 <;> rfl
  | succ k =>
    rw [Nat.add_comm, hhigh k (by omega)]
    cases d.getLsbD 0 <;> simp

/-- Settles O45: a word that decodes has one of the four forms, and the premises fix the bits its operation does not read. -/
theorem encodeOfDecodeCanonical : Obligations.EncodeOfDecodeCanonical := by
  intro n c i hdec hread hctrl
  cases decodesTo_of_decodeWord hdec with
  | readBuf k d =>
    rw [data_eq_zero_of_canonical_read hread]
    rfl
  | writeBuf k d => rfl
  | readReg a d h =>
    obtain ⟨_, hword, _⟩ := decodeRead_ok h
    rw [data_eq_zero_of_canonical_read hread, hword]
    rfl
  | writeReg a d h =>
    obtain ⟨_, rfl | ⟨_, hword, _⟩⟩ := decodeWrite_ok h
    · have hd := data_eq_bit_of_canonical_ctrl (hctrl (isWrite_ofFields true 0 0x001 d) (addr_ofFields true 0 0x001 d))
      rw [decodeWrite_ctrl] at h
      cases h
      rw [hd]
      cases d.getLsbD 0 <;> rfl
    · exact hword

/-! ## The rows of the opcode table (R78) -/

/-- The fixed bits of a register read are its `W`, `RSV` and `ADDR` fields. -/
theorem readWord_masked (a : Addr) (d : Word) : CmdWord.ofFields false 0 a d &&& 0xFFFF0000 = readWord a := by
  apply BitVec.eq_of_getLsbD_eq
  intro k hk
  rw [BitVec.getLsbD_and, readWord, ofFields_getLsbD, ofFields_getLsbD]
  interval_cases k <;> simp

/-- The fixed bits of a CTRL write are its `W`, `RSV` and `ADDR` fields and `DATA[0]`. -/
theorem ctrl_masked (d : Word) : writeWord 0x001 d &&& 0xFFFF0001 = writeWord 0x001 (if d.getLsbD 0 then 1 else 0) := by
  apply BitVec.eq_of_getLsbD_eq
  intro k hk
  rw [BitVec.getLsbD_and, writeWord, writeWord, ofFields_getLsbD, ofFields_getLsbD]
  cases hd : d.getLsbD 0 <;> interval_cases k <;> simp [-BitVec.getLsbD_eq_getElem, hd]

theorem opcodeRow_ctrl (b : Bool) :
    opcodeRow (if b then .start else .wrCtrlNop) = (writeWord 0x001 (if b then 1 else 0), 0xFFFF0001) := by
  cases b <;> rfl

/-- A word that decodes to `i` matches `i`'s row. -/
theorem DecodesTo.matches_row {n : Nat} {c : CmdWord} {i : Instr} (h : DecodesTo n c i) :
    c &&& (opcodeRow i).2 = (opcodeRow i).1 := by
  cases h with
  | readBuf k d => exact bufWord_masked false k d
  | writeBuf k d => exact bufWord_masked true k d
  | readReg a d h =>
    obtain ⟨_, _, hrow⟩ := decodeRead_ok h
    rw [hrow]
    exact readWord_masked a d
  | writeReg a d h =>
    obtain ⟨_, rfl | ⟨_, _, hrow⟩⟩ := decodeWrite_ok h
    · rw [decodeWrite_ctrl] at h
      cases h
      rw [opcodeRow_ctrl]
      exact ctrl_masked d
    · rw [hrow]
      exact writeWord_masked a d

/-! ## Words in the same row -/

/-- Two words that agree under a mask have the same bit wherever the mask has one. -/
theorem getLsbD_eq_of_and_eq {c e m : CmdWord} (h : c &&& m = e &&& m) {k : Nat} (hm : m.getLsbD k = true) :
    c.getLsbD k = e.getLsbD k := by
  have hbit := congrArg (·.getLsbD k) h
  simpa only [BitVec.getLsbD_and, hm, Bool.and_true] using hbit

/-- Two words that agree under a mask have the same field wherever the mask covers the field. -/
theorem extractLsb'_eq_of_and_eq {c e m : CmdWord} (h : c &&& m = e &&& m) {start len : Nat}
    (hm : ∀ k < len, m.getLsbD (start + k) = true) : c.extractLsb' start len = e.extractLsb' start len := by
  apply BitVec.eq_of_getLsbD_eq
  intro k hk
  rw [BitVec.getLsbD_extractLsb', BitVec.getLsbD_extractLsb', getLsbD_eq_of_and_eq h (hm k hk)]

/-- A word that agrees with an access in `W` and `RSV` is an access of that kind. -/
theorem eq_ofFields_of_and_eq {c m : CmdWord} {w : Bool} {a : Addr} {d : Word}
    (h : c &&& m = CmdWord.ofFields w 0 a d &&& m) (hm : ∀ k < 6, m.getLsbD (26 + k) = true) :
    c = CmdWord.ofFields w 0 (CmdWord.addr c) (CmdWord.data c) := by
  have hw : CmdWord.isWrite c = w := (getLsbD_eq_of_and_eq h (hm 5 (by decide))).trans (isWrite_ofFields w 0 a d)
  have hr : CmdWord.rsv c = 0 :=
    (extractLsb'_eq_of_and_eq h fun k hk => hm k (by omega)).trans (rsv_ofFields w 0 a d)
  calc c = CmdWord.ofFields (CmdWord.isWrite c) (CmdWord.rsv c) (CmdWord.addr c) (CmdWord.data c) := (ofFields_eta c).symm
    _ = CmdWord.ofFields w 0 (CmdWord.addr c) (CmdWord.data c) := by rw [hw, hr]

/-- A word that agrees with a register access in `W`, `RSV` and `ADDR` is an access to that register. -/
theorem eq_register_of_and_eq {c m : CmdWord} {w : Bool} {a : Addr} {d : Word}
    (h : c &&& m = CmdWord.ofFields w 0 a d &&& m) (hm : ∀ k < 16, m.getLsbD (16 + k) = true) :
    c = CmdWord.ofFields w 0 a (CmdWord.data c) := by
  have ha : CmdWord.addr c = a :=
    (extractLsb'_eq_of_and_eq h fun k hk => hm k (by omega)).trans (addr_ofFields w 0 a d)
  have hform := eq_ofFields_of_and_eq h fun k hk => by simpa only [← Nat.add_assoc] using hm (10 + k) (by omega)
  rwa [ha] at hform

theorem inBufferWindow_addr (c : CmdWord) : inBufferWindow (CmdWord.addr c) = c.getLsbD 25 := by
  rw [inBufferWindow, CmdWord.addr, BitVec.getLsbD_extractLsb']
  rfl

theorem data_getLsbD_zero (c : CmdWord) : (CmdWord.data c).getLsbD 0 = c.getLsbD 0 := by
  rw [CmdWord.data, BitVec.getLsbD_extractLsb']
  rfl

/-- A word that agrees with a buffer access in `W`, `RSV` and `ADDR[9]` is an access to some buffer entry. -/
theorem eq_buffer_of_and_eq {c : CmdWord} {w : Bool} {k : BufIndex} {d : Word}
    (h : c &&& 0xFE000000 = CmdWord.ofFields w 0 (bufferAddr k) d &&& 0xFE000000) :
    c = CmdWord.ofFields w 0 (bufferAddr (bufferIndex (CmdWord.addr c))) (CmdWord.data c) := by
  have hwin : inBufferWindow (CmdWord.addr c) = true := by
    rw [inBufferWindow_addr, getLsbD_eq_of_and_eq h rfl, ← inBufferWindow_addr, addr_ofFields, inBufferWindow_bufferAddr]
  rw [bufferAddr_bufferIndex hwin]
  exact eq_ofFields_of_and_eq h (by decide)

/-- A word that matches the row of a decoded instruction has that instruction's form, with operands of its own. -/
theorem DecodesTo.of_matches_row {c e : CmdWord} {j : Instr} (he : DecodesTo 512 e j)
    (h : c &&& (opcodeRow j).2 = (opcodeRow j).1) : ∃ i, DecodesTo 512 c i ∧ opcodeRow i = opcodeRow j := by
  have hagree := h.trans he.matches_row.symm
  cases he with
  | readBuf k d =>
    rw [eq_buffer_of_and_eq hagree]
    exact ⟨_, .readBuf _ _ (BitVec.isLt _), rfl⟩
  | writeBuf k d =>
    rw [eq_buffer_of_and_eq hagree]
    exact ⟨_, .writeBuf _ _ (BitVec.isLt _), rfl⟩
  | readReg a d hread =>
    obtain ⟨_, _, hrow⟩ := decodeRead_ok hread
    rw [hrow] at hagree
    rw [eq_register_of_and_eq (m := 0xFFFF0000) hagree (by decide)]
    exact ⟨j, .readReg a _ hread, rfl⟩
  | writeReg a d hwrite =>
    obtain ⟨hle, rfl | ⟨hne, _, hrow⟩⟩ := decodeWrite_ok hwrite
    · have hj := hwrite
      rw [decodeWrite_ctrl] at hj
      cases hj
      rw [opcodeRow_ctrl] at hagree
      have hbit : (CmdWord.data c).getLsbD 0 = d.getLsbD 0 := by
        rw [data_getLsbD_zero, ← data_ofFields true 0 0x001 d, data_getLsbD_zero]
        exact getLsbD_eq_of_and_eq (m := 0xFFFF0001) (k := 0) hagree rfl
      rw [eq_register_of_and_eq (m := 0xFFFF0001) hagree (by decide)]
      exact ⟨_, .writeReg _ _ (by rw [decodeWrite_ctrl, hbit]), rfl⟩
    · rw [hrow] at hagree
      rw [eq_register_of_and_eq (m := 0xFFFF0000) hagree (by decide)]
      obtain ⟨i, hi⟩ := decodeWrite_of_le hle (CmdWord.data c)
      obtain ⟨_, hctrl | ⟨_, _, hrow'⟩⟩ := decodeWrite_ok hi
      · exact absurd hctrl hne
      · exact ⟨i, .writeReg a _ hi, hrow'.trans hrow.symm⟩

/-- With 512 pixels every buffer index names an entry (R78). -/
theorem wellFormed_512 (i : Instr) : i.wellFormed 512 = true := by
  cases i with
  | rdBuf k | wrBuf k _ => exact decide_eq_true k.isLt
  | _ => rfl

theorem decodeWord_of_matches_row {c : CmdWord} {j : Instr} (h : c &&& (opcodeRow j).2 = (opcodeRow j).1) :
    ∃ i, decodeWord 512 c = .ok i ∧ opcodeRow i = opcodeRow j := by
  obtain ⟨i, hi, hrow⟩ := (decodesTo_encodeWord (wellFormed_512 j)).of_matches_row h
  exact ⟨i, hi.decodeWord_eq, hrow⟩

/-- Settles O46: a word lies in the row of what it decodes to and in no other, because the decoder has one result. -/
theorem decodeMatchesOpcodeTable : Obligations.DecodeMatchesOpcodeTable := by
  refine ⟨fun c i h => (decodesTo_of_decodeWord h).matches_row, fun c j => decodeWord_of_matches_row, ?_⟩
  intro c i j hi hj
  obtain ⟨i', hdec, hrow⟩ := decodeWord_of_matches_row hi
  obtain ⟨j', hdec', hrow'⟩ := decodeWord_of_matches_row hj
  obtain rfl : i' = j' := Except.ok.inj (hdec.symm.trans hdec')
  exact hrow.symm.trans hrow'

/-- Settles O47, by running the decoder on each word. -/
theorem decodeSampleWords : Obligations.DecodeSampleWords :=
  ⟨rfl, rfl, rfl, rfl, rfl, rfl, rfl, rfl, rfl, rfl⟩

/-! ## The threshold as two words (R69) -/

/-- `READ_THRESHOLD_LO` is the threshold below bit 16. -/
theorem toNat_readThresholdLo (s : State) : (regValue s .readThresholdLo).toNat = s.readThresholdClock.toNat % 65536 := by
  simp [regValue]

/-- `READ_THRESHOLD_HI` is the threshold from bit 16 on. -/
theorem toNat_readThresholdHi (s : State) : (regValue s .readThresholdHi).toNat = s.readThresholdClock.toNat / 65536 := by
  have hlt := s.readThresholdClock.isLt
  have hquot : s.readThresholdClock.toNat / 65536 % 2 % 65536 = s.readThresholdClock.toNat / 65536 := by omega
  simpa [regValue, Nat.shiftRight_eq_div_pow] using hquot

/-- Settles O11: the two registers are the remainder and the quotient of the threshold by 65536. -/
theorem readThresholdAsTwoWords : Obligations.ReadThresholdAsTwoWords := by
  refine ⟨rfl, rfl, fun s => ⟨regValue s .readThresholdLo, regValue s .readThresholdHi, rfl, rfl, ?_, ?_, ?_, ?_⟩⟩
  · exact (BitVec.setWidth_eq_extractLsb' (by decide)).symm
  · simp [regValue]
  · intro b hb
    simpa [regValue] using fun _ h => absurd h (Nat.ne_of_gt hb)
  · rw [toNat_readThresholdHi, toNat_readThresholdLo, Nat.div_add_mod']

end Sys2Proof
end

section
/-! PROOFS. The edge as a whole (R90, R93, R96): which instruction a step runs, that the inputs, the edge counter and the parameters
are written by no agent, what the HOST's turn may change in a resting block; then the statements of this family. -/

namespace Sys2Proof.Machine

/-! ## A presented instruction (R90, R180) -/

theorem presented_op {s : State} {i : Instr} (hrst : (nextInput s).rst = false) (hvalid : (nextInput s).hValid = true)
    (hdec : decodeWord s.params.pixelCount (commandWord (nextInput s)) = .ok i) : presented s = .op i := by
  simp [presented, hrst, hvalid, hdec]

theorem step_op {s w : State} {i : Instr} (hp : presented s = .op i) (hw : exec i s = .next w) :
    step s = .next (finishEdge s w) := by
  simp [step, hp, hw]

/-- Settles O1: the ports present `i`, and the rest of the edge depends on whether the block is busy. -/
theorem stepRunsPresentedTransaction : Obligations.StepRunsPresentedTransaction := by
  intro s w i hrst hvalid hdec _ hw
  exact ⟨step_op (presented_op hrst hvalid hdec) hw, fun hb => finishEdge_resting hb w, fun hb => finishEdge_busy hb w⟩

/-! ## What no agent writes (R96; log 2, log 4) -/

/-- The placed inputs, the edge counter and the parameters of `w` are those of `s`. -/
def SameEnvironment (s w : State) : Prop := w.inputs = s.inputs ∧ w.edge = s.edge ∧ w.params = s.params

theorem SameEnvironment.trans {s t u : State} (hst : SameEnvironment s t) (htu : SameEnvironment t u) :
    SameEnvironment s u := by
  obtain ⟨hinputs, hedge, hparams⟩ := hst
  obtain ⟨hinputs', hedge', hparams'⟩ := htu
  exact ⟨hinputs'.trans hinputs, hedge'.trans hedge, hparams'.trans hparams⟩

theorem sameEnvironment_tickPhase (s : State) : SameEnvironment s (tickPhase s) := by
  rw [tickPhase_frame]
  exact ⟨rfl, rfl, rfl⟩

theorem sameEnvironment_readerPhase (inp : PortSample) (s : State) : SameEnvironment s (readerPhase inp s) := by
  rw [readerPhase_frame]
  exact ⟨rfl, rfl, rfl⟩

theorem sameEnvironment_startCmd (s : State) : SameEnvironment s (startCmd s) := by
  rcases startCmd_cases s with ⟨_, e⟩ | ⟨_, e⟩ <;> rw [e] <;> exact ⟨rfl, rfl, rfl⟩

theorem sameEnvironment_exec {i : Instr} {s w : State} (hw : exec i s = .next w) : SameEnvironment s w := by
  cases hb : busy s.state with
  | true =>
    obtain ⟨r, rfl⟩ := exec_busy hb hw
    exact ⟨rfl, rfl, rfl⟩
  | false =>
    rcases exec_idle hb hw with ⟨_, rfl⟩ | ⟨_, _, rfl⟩ | ⟨_, _, rfl⟩ | ⟨_, _, rfl⟩ | ⟨_, _, rfl⟩ | ⟨_, rfl⟩
    case inr.inr.inr.inr.inr => exact sameEnvironment_startCmd s
    all_goals exact ⟨rfl, rfl, rfl⟩

/-- The end of an edge uses up one sample, whatever READER and TICK do before. -/
theorem finishEdge_environment {s w : State} (h : SameEnvironment s w) :
    (finishEdge s w).inputs = s.inputs.tail ∧ (finishEdge s w).edge = s.edge + 1 ∧ (finishEdge s w).params = s.params := by
  have hused {v : State} (hv : SameEnvironment s v) :
      (consumeInput v).inputs = s.inputs.tail ∧ (consumeInput v).edge = s.edge + 1 ∧ (consumeInput v).params = s.params := by
    obtain ⟨hinputs, hedge, hparams⟩ := hv
    exact ⟨congrArg List.tail hinputs, congrArg (· + 1) hedge, hparams⟩
  cases hb : busy s.state with
  | true =>
    rw [finishEdge_busy hb]
    exact hused ((h.trans (sameEnvironment_readerPhase _ w)).trans (sameEnvironment_tickPhase _))
  | false =>
    rw [finishEdge_resting hb]
    exact hused h

/-- Settles O2: a reset edge keeps the parameters and uses up its sample, and any other edge is `finishEdge` of a HOST's turn. -/
theorem everyEdgeAnswers : Obligations.EveryEdgeAnswers := by
  intro s
  rcases step_cases s with ⟨_, e⟩ | ⟨_, e⟩ | ⟨_, _, e⟩ | ⟨i, w, _, hw, e⟩
  · exact ⟨_, e, rfl, rfl, rfl⟩
  · exact ⟨_, e, finishEdge_environment ⟨rfl, rfl, rfl⟩⟩
  · exact ⟨_, e, finishEdge_environment ⟨rfl, rfl, rfl⟩⟩
  · exact ⟨_, e, finishEdge_environment (sameEnvironment_exec hw)⟩

/-! ## A resting block (R93, R181) -/

/-- In a resting block an instruction other than START writes configuration registers and the answer (R181, R198 to R201). -/
theorem exec_resting_frame {i : Instr} {s w : State} (hb : busy s.state = false) (hne : i ≠ .start)
    (hw : exec i s = .next w) :
    w = { s with
      highTicks := w.highTicks, lowTicks := w.lowTicks, trigHighClocks := w.trigHighClocks
      cycleLimitClocks := w.cycleLimitClocks, resp := w.resp } := by
  rcases exec_idle hb hw with ⟨_, rfl⟩ | ⟨_, _, rfl⟩ | ⟨_, _, rfl⟩ | ⟨_, _, rfl⟩ | ⟨_, _, rfl⟩ | ⟨hstart, _⟩
  case inr.inr.inr.inr.inr => exact absurd hstart hne
  all_goals rfl

/-- Settles O21: the edge is the HOST's turn alone, and of the instructions only START, which is not presented, could change more. -/
theorem restingBlockKeepsState : Obligations.RestingBlockKeepsState := by
  intro s t hb hreset hstart hst
  rcases step_cases s with ⟨hp, _⟩ | ⟨_, e⟩ | ⟨_, _, e⟩ | ⟨i, w, hp, hw, e⟩
  · exact absurd hp hreset
  all_goals
    rw [e, finishEdge_resting hb, Host.Outcome.next.injEq] at hst
    subst hst
  · rfl
  · rfl
  · have hne : i ≠ .start := fun hi => hstart (hi ▸ hp)
    exact congrArg consumeInput (exec_resting_frame hb hne hw)

/-! ## The threshold START computes (R94, R151) -/

theorem startCmd_readThresholdClock {s : State} (hc : configInvalid s = false) :
    (startCmd s).readThresholdClock = thresholdOf s := by
  rcases startCmd_cases s with ⟨hc', _⟩ | ⟨_, e⟩
  · simp [hc] at hc'
  · rw [e]
    rfl

/-- Settles O16: an accepted valid START stores `thresholdOf`, whose 17 bits hold the sum. -/
theorem thresholdSumExact : Obligations.ThresholdSumExact := by
  intro s hp hb hc
  refine ⟨respond 0 false (startCmd s), congrArg _ (hostWrite_idle startCmd hb), ?_⟩
  calc (startCmd s).readThresholdClock.toNat
    _ = (thresholdOf s).toNat := congrArg BitVec.toNat (startCmd_readThresholdClock hc)
    _ = s.trigHighClocks.toNat + s.params.pipelineLatencyClocks := thresholdOf_toNat hp

end Sys2Proof.Machine
end

section
/-! PROOFS. The schedule of a cycle (R108, R268): the edges of a running cycle that has not timed out (`Running`), and the counters of
the tick source and the waveform state machine read as one number (`cycleTime`) that counts these edges.  Then the statements of this
family. -/

namespace Sys2Proof.Machine

/-! ## The turn of TICK without a firing (R101, R102) -/

/-- Settles O22: a disarmed timer and an armed one without a compare match are the two turns of TICK that are no firing. -/
theorem tickAdvanceEffect : Obligations.TickAdvanceEffect := by
  intro s
  rcases tickPhase_cases s with ⟨ha, e⟩ | ⟨ha, _, e⟩ | ⟨ha, hmatch, _⟩ | ⟨ha, hmatch, _⟩
  · exact ⟨fun _ => e, by simp [ha]⟩
  · exact ⟨by simp [ha], fun _ _ => e⟩
  · exact ⟨by simp [ha], fun _ hne => absurd hmatch hne⟩
  · exact ⟨by simp [ha], fun _ hne => absurd hmatch hne⟩

/-! ## The edges of a running cycle -/

/-- A cycle runs and has not timed out. -/
def Running (s : State) : Prop := busy s.state = true ∧ s.timeoutFlag = false

/-- READER leaves the timeout flag alone (R154 to R160). -/
@[simp] theorem readerPhase_timeoutFlag (inp : PortSample) (s : State) :
    (readerPhase inp s).timeoutFlag = s.timeoutFlag := by
  rw [readerPhase_frame]

/-- TICK neither starts nor ends a cycle (R57). -/
theorem busy_tickPhase {s : State} (h : Inv s) : busy (tickPhase s).state = busy s.state := by
  have harmed : (tickPhase s).armed = s.armed := by rw [tickPhase_frame]
  rw [← (inv_tickPhase h).armed_eq_busy, harmed, h.armed_eq_busy]

/-- A FIRE_FALL that leaves no timeout recorded has counted a clock period (R112). -/
theorem fireFall_of_no_timeout {s : State} (ht : (fireFall s).timeoutFlag = false) :
    s.timeoutFlag = false ∧ s.clockCount ≠ s.cycleLimitClocks ∧ (fireFall s).clockCount = s.clockCount + 1 := by
  rcases fireFall_cases s with ⟨_, e⟩ | ⟨hne, _, e⟩ | ⟨hne, _, e⟩ <;> rw [e] at ht ⊢
  · cases ht
  · exact ⟨ht, hne, rfl⟩
  · exact ⟨ht, hne, rfl⟩

@[simp] theorem fireFall_clockPhase (s : State) : (fireFall s).clockPhase = .low := rfl

@[simp] theorem fireFall_tickCount (s : State) : (fireFall s).tickCount = 0 := rfl

@[simp] theorem leavePriming_timeoutFlag (s : State) : (leavePriming s).timeoutFlag = s.timeoutFlag := by rw [leavePriming_eq]

/-- TICK never clears the timeout flag (R234). -/
theorem timeoutFlag_of_tickPhase {s : State} (ht : (tickPhase s).timeoutFlag = false) : s.timeoutFlag = false := by
  rcases tickPhase_cases s with ⟨_, e⟩ | ⟨_, _, e⟩ | ⟨_, _, _, e⟩ | ⟨_, _, _, e⟩ <;> rw [e] at ht
  · exact ht
  · exact ht
  · rwa [leavePriming_timeoutFlag] at ht
  · rw [leavePriming_timeoutFlag] at ht
    exact (fireFall_of_no_timeout ht).1

theorem Running.of_tickPhase {s : State} (h : Inv s) (hrun : Running (tickPhase s)) : Running s := by
  obtain ⟨hb, ht⟩ := hrun
  exact ⟨busy_tickPhase h ▸ hb, timeoutFlag_of_tickPhase ht⟩

/-- An edge from a busy block into a running cycle is no reset, finds no timeout recorded, and runs TICK in the cycle that READER
leaves running (R90). -/
theorem step_running {s t : State} (h : Inv s) (hb : busy s.state = true) (hst : step s = .next t) (ht : Running t) :
    (nextInput s).rst = false ∧ Running s ∧ ∃ r,
      Running (readerPhase (nextInput s) { s with resp := r }) ∧
      t = consumeInput (tickPhase (readerPhase (nextInput s) { s with resp := r })) := by
  have hr : presented s ≠ .reset := by
    intro hr
    rw [step_reset hr hst] at ht
    cases ht.1
  obtain ⟨r, rfl⟩ := step_busy hb hr hst
  have hrun := Running.of_tickPhase (inv_readerPhase (inv_answer h r) hb _) ht
  exact ⟨by simpa [presented_eq_reset_iff] using hr, ⟨hb, by simpa using hrun.2⟩, r, hrun, rfl⟩

theorem runsTo_unique {k : Nat} {s t u : State} (ht : RunsTo k s t) (hu : RunsTo k s u) : t = u :=
  Host.Outcome.next.inj (ht.symm.trans hu)

/-- The last edge of a run. -/
theorem runsTo_succ_last {k : Nat} {s t : State} : RunsTo (k + 1) s t ↔ ∃ u, RunsTo k s u ∧ step u = .next t := by
  induction k generalizing s with
  | zero => simp [runsTo_succ, runsTo_zero]
  | succ k ih =>
    rw [runsTo_succ]
    simp only [ih, runsTo_succ (k := k)]
    constructor
    · rintro ⟨v, hv, u, hu, hst⟩
      exact ⟨u, ⟨v, hv, hu⟩, hst⟩
    · rintro ⟨u, ⟨v, hv, hu⟩, hst⟩
      exact ⟨v, hv, u, hu, hst⟩

/-- What holds at the start of a cycle and is passed on along the edges of the running cycle holds `k` edges after the start, in a
cycle that still runs and has not timed out. -/
theorem running_induction {I : Nat → State → Prop} {s t : State} {k : Nat} (h : Inv s) (hstart : I 0 s)
    (hstep : ∀ j u v, Inv u → Running u → step u = .next v → Running v → I j u → I (j + 1) v)
    (hbusy : BusyBefore k s) (hrun : RunsTo k s t) (ht : Running t) : I k t := by
  induction k generalizing t with
  | zero => exact runsTo_zero.1 hrun ▸ hstart
  | succ k ih =>
    obtain ⟨u, hu, hst⟩ := runsTo_succ_last.1 hrun
    obtain ⟨u', hu', hb⟩ := hbusy k k.lt_succ_self
    obtain rfl := runsTo_unique hu hu'
    have hinv := inv_runsTo h hu
    obtain ⟨_, hrunning, _⟩ := step_running hinv hb hst ht
    exact hstep k u t hinv hrunning hst ht (ih (fun j hj => hbusy j (Nat.lt_succ_of_lt hj)) hu hrunning)

/-! ## The counters as one number (R108) -/

/-- The edge of the clock period at which a half-period begins. -/
def phaseStart (s : State) : Nat :=
  match s.clockPhase with
  | .low => 0
  | .high => s.lowTicks.toNat

theorem phaseStart_low {s : State} (hlow : s.clockPhase = .low) : phaseStart s = 0 := by simp [phaseStart, hlow]

theorem phaseStart_high {s : State} (hhigh : s.clockPhase = .high) : phaseStart s = s.lowTicks.toNat := by
  simp [phaseStart, hhigh]

/-- The edges of a cycle that its counters stand for: the completed clock periods, the half-periods of the running one and the timer
units of the running half-period. -/
def cycleTime (s : State) : Nat := period s * s.clockCount.toNat + (phaseStart s + s.tickCount.toNat)

theorem CycleStart.cycleTime_eq {s : State} (h : CycleStart s) : cycleTime s = 0 := by
  obtain ⟨hphase, hcount, _⟩ := h.inv.priming h.state
  simp [cycleTime, phaseStart_low hphase, hcount, h.tick_zero]

theorem Inv.tickCompare_low {s : State} (h : Inv s) (ha : s.armed = true) (hlow : s.clockPhase = .low) :
    s.tickCompare = s.lowTicks := by
  simpa [hlow] using h.tick_compare ha

theorem Inv.tickCompare_high {s : State} (h : Inv s) (ha : s.armed = true) (hhigh : s.clockPhase = .high) :
    s.tickCompare = s.highTicks := by
  simpa [hhigh] using h.tick_compare ha

/-- The counters never stand for a whole clock period that is not counted (R37 item 3). -/
theorem Inv.phaseTime_lt_period {s : State} (h : Inv s) (ha : s.armed = true) :
    phaseStart s + s.tickCount.toNat < period s := by
  have hlt := h.tick_lt ha
  unfold period
  cases hphase : s.clockPhase with
  | low =>
    rw [h.tickCompare_low ha hphase] at hlt
    rw [phaseStart_low hphase]
    omega
  | high =>
    rw [h.tickCompare_high ha hphase] at hlt
    rw [phaseStart_high hphase]
    omega

theorem period_fireFall (s : State) : period (fireFall s) = period s := by
  rcases fireFall_cases s with ⟨_, e⟩ | ⟨_, _, e⟩ | ⟨_, _, e⟩ <;> rw [e] <;> rfl

@[simp] theorem cycleTime_readerPhase (inp : PortSample) (s : State) : cycleTime (readerPhase inp s) = cycleTime s := by
  rw [readerPhase_frame]
  rfl

@[simp] theorem cycleTime_leavePriming (s : State) : cycleTime (leavePriming s) = cycleTime s := by
  rw [leavePriming_eq]
  rfl

@[simp] theorem cycleTime_consumeInput (s : State) : cycleTime (consumeInput s) = cycleTime s := rfl

theorem cycleTime_tickAdvance {s : State} (h : Inv s) (ha : s.armed = true) :
    cycleTime (tickAdvance s) = cycleTime s + 1 := by
  have hlt := h.tick_lt ha
  have hmax := s.tickCompare.isLt
  have hsucc : (s.tickCount + 1).toNat = s.tickCount.toNat + 1 :=
    BitVec.toNat_add_of_lt (show s.tickCount.toNat + 1 < _ by omega)
  show period s * s.clockCount.toNat + (phaseStart s + (s.tickCount + 1).toNat) = cycleTime s + 1
  rw [hsucc]
  rfl

/-- FIRE_RISE comes one edge after the last timer unit of the low half-period (R103, R104). -/
theorem cycleTime_fireRise {s : State} (h : Inv s) (ha : s.armed = true)
    (hmatch : s.tickCount.toNat + 1 = s.tickCompare.toNat) (hlow : s.clockPhase = .low) :
    cycleTime (fireRise s) = cycleTime s + 1 := by
  rw [h.tickCompare_low ha hlow] at hmatch
  show period s * s.clockCount.toNat + (s.lowTicks.toNat + 0) = cycleTime s + 1
  rw [cycleTime, phaseStart_low hlow]
  omega

/-- FIRE_FALL comes one edge after the last timer unit of the clock period and counts it (R103, R112). -/
theorem cycleTime_fireFall {s : State} (h : Inv s) (ha : s.armed = true)
    (hmatch : s.tickCount.toNat + 1 = s.tickCompare.toNat) (hhigh : s.clockPhase = .high)
    (ht : (fireFall s).timeoutFlag = false) : cycleTime (fireFall s) = cycleTime s + 1 := by
  rw [h.tickCompare_high ha hhigh] at hmatch
  obtain ⟨_, hne, hcount⟩ := fireFall_of_no_timeout ht
  have hsucc := clockCount_succ_toNat (h.clockCount_lt (h.armed_eq_busy ▸ ha) hne)
  calc cycleTime (fireFall s)
    _ = period s * (s.clockCount.toNat + 1) := by
      rw [cycleTime, hcount, hsucc, period_fireFall, phaseStart_low (fireFall_clockPhase s), fireFall_tickCount]
      rfl
    _ = period s * s.clockCount.toNat + (s.lowTicks.toNat + s.highTicks.toNat) := Nat.mul_succ _ _
    _ = cycleTime s + 1 := by
      rw [cycleTime, phaseStart_high hhigh]
      omega

/-- TICK's turn in a cycle that runs on counts one edge. -/
theorem cycleTime_tickPhase {s : State} (h : Inv s) (hrun : Running (tickPhase s)) :
    cycleTime (tickPhase s) = cycleTime s + 1 := by
  have harmed := h.armed_of_busy (Running.of_tickPhase h hrun).1
  obtain ⟨_, ht⟩ := hrun
  rcases tickPhase_cases s with ⟨hdis, _⟩ | ⟨ha, _, e⟩ | ⟨ha, hmatch, hlow, e⟩ | ⟨ha, hmatch, hhigh, e⟩
  · simp [harmed] at hdis
  · rw [e, cycleTime_tickAdvance h ha]
  · rw [e, cycleTime_leavePriming, cycleTime_fireRise h ha hmatch hlow]
  · rw [e, leavePriming_timeoutFlag] at ht
    rw [e, cycleTime_leavePriming, cycleTime_fireFall h ha hmatch hhigh ht]

theorem cycleTime_step {s t : State} (h : Inv s) (hb : busy s.state = true) (hst : step s = .next t) (ht : Running t) :
    cycleTime t = cycleTime s + 1 := by
  obtain ⟨_, _, r, _, rfl⟩ := step_running h hb hst ht
  rw [cycleTime_consumeInput, cycleTime_tickPhase (inv_readerPhase (inv_answer h r) hb _) ht, cycleTime_readerPhase]
  rfl

/-- `k` edges after START the counters stand for `k` edges, whatever READER, the ADC and the host do, and the configuration is the
one the cycle began with (R55, R108). -/
theorem cycleTime_eq_of_runsTo {s t : State} {k : Nat} (h : CycleStart s) (hbusy : BusyBefore k s) (hrun : RunsTo k s t)
    (ht : Running t) : SameConfiguration s t ∧ cycleTime t = k := by
  refine running_induction (I := fun j u => SameConfiguration s u ∧ cycleTime u = j) h.inv
    ⟨⟨rfl, rfl, rfl, rfl, rfl⟩, h.cycleTime_eq⟩ ?_ hbusy hrun ht
  rintro j u v hinv ⟨hb, _⟩ hst hv ⟨hsame, htime⟩
  obtain ⟨hrst, _⟩ := step_running hinv hb hst hv
  exact ⟨hsame.trans (configurationFrozenWhileBusy u v hb hrst hst), htime ▸ cycleTime_step hinv hb hst hv⟩

/-- Settles O49: `cycleTime` is `k`, and its last part is below the clock period, so quotient and remainder of `k` are its parts. -/
theorem firingTimesExact : Obligations.FiringTimesExact := by
  intro s t k h hbusy hrun hb hto
  obtain ⟨⟨hhigh, hlow, _⟩, htime⟩ := cycleTime_eq_of_runsTo h hbusy hrun ⟨hb, hto⟩
  have hinv := inv_runsTo h.inv hrun
  have ha := hinv.armed_of_busy hb
  have hperiod : period t = period s := by rw [period, period, hhigh, hlow]
  have hlt := hinv.phaseTime_lt_period ha
  obtain ⟨hdiv, hmod⟩ := (Nat.div_mod_unique (Nat.zero_lt_of_lt hlt)).2 ⟨(Nat.add_comm _ _).trans htime, hlt⟩
  rw [hperiod] at hdiv hmod
  refine ⟨hdiv.symm, ?_⟩
  rw [hmod, ← hlow, ← hhigh]
  have htick := hinv.tick_lt ha
  cases hphase : t.clockPhase with
  | low =>
    rw [phaseStart_low hphase, Nat.zero_add]
    rw [hinv.tickCompare_low ha hphase] at htick ⊢
    exact ⟨fun _ => ⟨rfl, rfl, rfl⟩, fun hle => absurd htick (Nat.not_lt_of_le hle)⟩
  | high =>
    rw [phaseStart_high hphase, hinv.tickCompare_high ha hphase]
    exact ⟨fun hlt => absurd hlt (Nat.not_lt_of_le (Nat.le_add_right _ _)),
      fun _ => ⟨rfl, (Nat.add_sub_cancel_left ..).symm, rfl⟩⟩

end Sys2Proof.Machine
end

section
/-! PROOFS. The waveform state machine (R110 to R115): the whole effect of its two firings, the level of `trig_out` as an invariant of
every edge (`TrigShape`), and from it and the schedule of the cycle the two lines at every edge.  Then the statements of this
family. -/

namespace Sys2Proof.Machine

/-! ## The two firings (R110 to R112) -/

theorem tickPhase_eq_fireRise {s : State} (ha : s.armed = true) (hmatch : s.tickCount.toNat + 1 = s.tickCompare.toNat)
    (hlow : s.clockPhase = .low) : tickPhase s = leavePriming (fireRise s) := by
  simp [tickPhase, ha, compareMatch, hmatch, fire, hlow]

theorem afterFiring_eq_ite (st : CycleState) : afterFiring st = if st = .priming then .integrating else st := by
  cases st <;> rfl

/-- The first sample-ready event and the first firing write `state` one after the other, in different states (R110, R130). -/
theorem afterFiring_enterReading (st : CycleState) :
    afterFiring (if st = .integrating then .reading else st) =
      if st = .integrating then .reading else if st = .priming then .integrating else st := by
  cases st <;> rfl

/-- Settles O23: FIRE_RISE, then the dispatch's own write of `state`. -/
theorem fireRiseEffect : Obligations.FireRiseEffect := by
  intro s ha hmatch hlow
  rw [tickPhase_eq_fireRise ha hmatch hlow, leavePriming_eq, ← afterFiring_eq_ite]
  rfl

/-- Settles O24: each of the three forms of FIRE_FALL, then the dispatch's own write of `state`. -/
theorem fireFallEffect : Obligations.FireFallEffect := by
  intro s ha hmatch hhigh
  rw [tickPhase_eq_fireFall ha hmatch hhigh, leavePriming_eq]
  rcases fireFall_cases s with ⟨hlimit, e⟩ | ⟨hne, hlt, e⟩ | ⟨hne, hle, e⟩ <;> rw [e]
  · rw [if_pos hlimit, ← afterFiring_eq_ite]
  · rw [if_neg hne, if_pos hlt, ← afterFiring_eq_ite]
  · rw [if_neg hne, if_neg (Nat.not_lt_of_le hle), ← afterFiring_enterReading]

/-! ## Who moves the trigger line (R113) -/

@[simp] theorem fireFall_trigOut (s : State) : (fireFall s).trigOut = s.trigOut := by
  rcases fireFall_cases s with ⟨_, e⟩ | ⟨_, _, e⟩ | ⟨_, _, e⟩ <;> rw [e]

@[simp] theorem fireFall_trigHighClocks (s : State) : (fireFall s).trigHighClocks = s.trigHighClocks := by
  rcases fireFall_cases s with ⟨_, e⟩ | ⟨_, _, e⟩ | ⟨_, _, e⟩ <;> rw [e]

@[simp] theorem leavePriming_trigOut (s : State) : (leavePriming s).trigOut = s.trigOut := by rw [leavePriming_eq]

@[simp] theorem leavePriming_clockPhase (s : State) : (leavePriming s).clockPhase = s.clockPhase := by rw [leavePriming_eq]

theorem leavePriming_ne_priming (s : State) : (leavePriming s).state ≠ .priming := by
  rw [leavePriming_eq]
  exact afterFiring_ne_priming s.state

/-- READER moves the lines and `state` only when it ends the cycle (R158). -/
theorem readerPhase_running {inp : PortSample} {s : State} (hb : busy (readerPhase inp s).state = true) :
    readerPhase inp s = { s with
      sampleReadyFlag := (readerPhase inp s).sampleReadyFlag, buf := (readerPhase inp s).buf
      cursor := (readerPhase inp s).cursor, capErrFlag := (readerPhase inp s).capErrFlag
      adcPending := (readerPhase inp s).adcPending, adcStart := (readerPhase inp s).adcStart } := by
  rcases readerPhase_cases inp s with ⟨_, e⟩ | ⟨_, _, _, e⟩ | ⟨_, _, _, e⟩ | ⟨_, _, e⟩ <;> rw [e] at hb ⊢
  · cases hb
  · rcases rdPush_cases inp.adcData s with ⟨_, e⟩ | ⟨_, e⟩ <;> rw [e] at hb ⊢
    · cases hb
    · rw [push_frame]
  · rfl
  · rfl

/-- TICK moves the trigger line only by FIRE_RISE (R111, R112). -/
theorem tickPhase_trigOut (s : State) :
    (tickPhase s).trigOut = s.trigOut ∨
    (s.clockPhase = .low ∧ s.tickCount.toNat + 1 = s.tickCompare.toNat ∧ (tickPhase s).clockPhase = .high) := by
  rcases tickPhase_cases s with ⟨_, e⟩ | ⟨_, _, e⟩ | ⟨_, hmatch, hlow, e⟩ | ⟨_, _, _, e⟩
  · exact .inl (by rw [e])
  · exact .inl (by rw [e, tickAdvance_trigOut])
  · exact .inr ⟨hlow, hmatch, by rw [e, leavePriming_clockPhase, fireRise_clockPhase]⟩
  · exact .inl (by rw [e, leavePriming_trigOut, fireFall_trigOut])

/-- The HOST's turn leaves the line of a resting block at 0; START drives it there (R151). -/
theorem exec_resting_trigOut {i : Instr} {s w : State} (hb : busy s.state = false) (hs : s.trigOut = false)
    (hw : exec i s = .next w) : w.trigOut = false := by
  rcases exec_idle hb hw with ⟨_, rfl⟩ | ⟨_, _, rfl⟩ | ⟨_, _, rfl⟩ | ⟨_, _, rfl⟩ | ⟨_, _, rfl⟩ | ⟨_, rfl⟩
  case inr.inr.inr.inr.inr => rcases startCmd_cases s with ⟨_, e⟩ | ⟨_, e⟩ <;> simp [e, hs]
  all_goals exact hs

/-- Settles O26: a resting block keeps the line at 0; in a busy one READER moves it by ending the cycle and TICK by FIRE_RISE. -/
theorem triggerChangesOnlyAtRise : Obligations.TriggerChangesOnlyAtRise := by
  intro s t h hr hst hchange
  cases hb : busy s.state with
  | false =>
    obtain ⟨_, _, _, _, hs⟩ := h.rest hb
    rcases step_resting hb hr hst with ⟨r, rfl⟩ | ⟨i, w, hw, rfl⟩
    · exact absurd rfl hchange
    · exact absurd ((exec_resting_trigOut hb hs hw).trans hs.symm) hchange
  | true =>
    obtain ⟨r, rfl⟩ := step_busy hb hr hst
    refine ⟨rfl, ?_⟩
    have hkeep := busy_tickPhase (inv_readerPhase (inv_answer h r) hb (nextInput s))
    cases hend : busy (readerPhase (nextInput s) { s with resp := r }).state with
    | false => exact .inr (hkeep.trans hend)
    | true =>
      rcases tickPhase_trigOut (readerPhase (nextInput s) { s with resp := r }) with e | ⟨hlow, hmatch, hhigh⟩
      · rw [consumeInput_trigOut, e, readerPhase_running hend] at hchange
        exact absurd rfl hchange
      · rw [readerPhase_running hend] at hlow hmatch
        exact .inl ⟨hlow, hmatch, hhigh⟩

/-! ## The level of the trigger line (R114, R115) -/

theorem trigLevel_high {s : State} (hhigh : s.clockPhase = .high) :
    trigLevel s = decide (s.clockCount.toNat < s.trigHighClocks.toNat) := by
  simp [trigLevel, hhigh]

theorem trigLevel_low {s : State} (hlow : s.clockPhase = .low) :
    trigLevel s = decide (s.clockCount.toNat ≤ s.trigHighClocks.toNat) := by
  simp [trigLevel, hlow, Nat.le_iff_lt_or_eq, ← BitVec.toNat_inj]

@[simp] theorem trigLevel_leavePriming (s : State) : trigLevel (leavePriming s) = trigLevel s := by
  rw [leavePriming_eq]
  rfl

/-- Past its first firing a running cycle has the trigger line at the level of R114. -/
def TrigShape (s : State) : Prop := busy s.state = true → s.state ≠ .priming → s.trigOut = trigLevel s

/-- The two tests of FIRE_RISE give the level of the new half-period: a count of 0 is below `T` unless it equals it, and any other
count finds the line at the level of the ending half-period (R111). -/
theorem trigAfterRise_eq_trigLevel {s : State} (h : Inv s) (hshape : TrigShape s) (hb : busy s.state = true)
    (hlow : s.clockPhase = .low) : trigAfterRise s = trigLevel (fireRise s) := by
  rw [trigLevel_high (fireRise_clockPhase s), fireRise_clockCount, fireRise_trigHighClocks, trigAfterRise]
  by_cases hT : s.clockCount = s.trigHighClocks
  · simp [hT]
  · have hneT : s.clockCount.toNat ≠ s.trigHighClocks.toNat := fun e => hT (BitVec.eq_of_toNat_eq e)
    rw [if_neg hT]
    by_cases h0 : s.clockCount = 0
    · rw [if_pos h0, eq_comm, decide_eq_true_eq]
      rw [h0] at hneT ⊢
      exact Nat.pos_of_ne_zero hneT.symm
    · have hpast : s.state ≠ .priming := fun e => by
        obtain ⟨_, hzero, _⟩ := h.priming e
        exact h0 hzero
      rw [if_neg h0, hshape hb hpast, trigLevel_low hlow, decide_eq_decide]
      omega

/-- FIRE_FALL counts one clock period, but at the limit; there the count is past `T` already (R112, R152). -/
theorem fireFall_clockCount {s : State} (h : Inv s) (hb : busy s.state = true) :
    (s.trigHighClocks.toNat < s.clockCount.toNat ∧ (fireFall s).clockCount = s.clockCount) ∨
    (fireFall s).clockCount.toNat = s.clockCount.toNat + 1 := by
  rcases fireFall_cases s with ⟨hlimit, e⟩ | ⟨hne, _, e⟩ | ⟨hne, _, e⟩ <;> rw [e]
  · obtain ⟨hT, _⟩ := (configInvalid_eq_false_iff s).1 (h.config_valid hb)
    exact .inl ⟨hlimit ▸ hT, rfl⟩
  · exact .inr (clockCount_succ_toNat (h.clockCount_lt hb hne))
  · exact .inr (clockCount_succ_toNat (h.clockCount_lt hb hne))

/-- FIRE_FALL moves the count and the phase such that the level stays (R113). -/
theorem trigLevel_fireFall {s : State} (h : Inv s) (hb : busy s.state = true) (hhigh : s.clockPhase = .high) :
    trigLevel (fireFall s) = trigLevel s := by
  rw [trigLevel_high hhigh, trigLevel_low (fireFall_clockPhase s), fireFall_trigHighClocks, decide_eq_decide]
  rcases fireFall_clockCount h hb with ⟨hT, e⟩ | e <;> rw [e] <;> omega

theorem trigShape_readerPhase {s : State} (hshape : TrigShape s) (inp : PortSample) : TrigShape (readerPhase inp s) := by
  intro hb
  have e := readerPhase_running hb
  rw [e] at hb ⊢
  exact hshape hb

theorem trigShape_tickPhase {s : State} (h : Inv s) (hshape : TrigShape s) : TrigShape (tickPhase s) := by
  rcases tickPhase_cases s with ⟨_, e⟩ | ⟨_, _, e⟩ | ⟨ha, _, hlow, e⟩ | ⟨ha, _, hhigh, e⟩ <;> rw [e]
  · exact hshape
  · exact hshape
  · intro _ _
    rw [leavePriming_trigOut, trigLevel_leavePriming, fireRise_trigOut]
    exact trigAfterRise_eq_trigLevel h hshape (h.armed_eq_busy ▸ ha) hlow
  · intro _ _
    have hb : busy s.state = true := h.armed_eq_busy ▸ ha
    rw [leavePriming_trigOut, trigLevel_leavePriming, fireFall_trigOut, trigLevel_fireFall h hb hhigh]
    exact hshape hb (h.not_priming hhigh)

/-- An edge without reset leaves a resting block resting or begins a cycle in PRIMING (R93, R151). -/
theorem step_resting_state {s t : State} (hb : busy s.state = false) (hr : presented s ≠ .reset) (hst : step s = .next t) :
    busy t.state = false ∨ t.state = .priming := by
  rcases step_resting hb hr hst with ⟨r, rfl⟩ | ⟨i, w, hw, rfl⟩
  · exact .inl hb
  · rcases exec_idle hb hw with ⟨_, rfl⟩ | ⟨_, _, rfl⟩ | ⟨_, _, rfl⟩ | ⟨_, _, rfl⟩ | ⟨_, _, rfl⟩ | ⟨_, rfl⟩
    case inr.inr.inr.inr.inr =>
      rcases startCmd_cases s with ⟨_, e⟩ | ⟨_, e⟩ <;> rw [e]
      · exact .inl rfl
      · exact .inr rfl
    all_goals exact .inl hb

/-- Settles O43: READER and TICK keep the shape, and a block past its first firing was busy before the edge. -/
theorem everyEdgeKeepsTriggerShape : Obligations.EveryEdgeKeepsTriggerShape := by
  intro s t h hshape hst hbt hpast
  have hr : presented s ≠ .reset := by
    intro hr
    rw [step_reset hr hst] at hbt
    cases hbt
  cases hb : busy s.state with
  | false =>
    rcases step_resting_state hb hr hst with hrest | hpriming
    · simp [hrest] at hbt
    · exact absurd hpriming hpast
  | true =>
    obtain ⟨r, rfl⟩ := step_busy hb hr hst
    have hreader := trigShape_readerPhase (s := { s with resp := r }) hshape (nextInput s)
    exact trigShape_tickPhase (inv_readerPhase (inv_answer h r) hb _) hreader hbt hpast

/-! ## PRIMING and the first low half-period (R110) -/

/-- Past PRIMING a low half-period follows a FIRE_FALL, so a clock period is counted. -/
def LowIsCounted (s : State) : Prop := s.state ≠ .priming → s.clockPhase = .low → s.clockCount.toNat ≠ 0

theorem lowIsCounted_tickPhase {s : State} (h : Inv s) (hlow : LowIsCounted s) : LowIsCounted (tickPhase s) := by
  rcases tickPhase_cases s with ⟨_, e⟩ | ⟨_, _, e⟩ | ⟨_, _, _, e⟩ | ⟨ha, _, _, e⟩ <;> rw [e]
  · exact hlow
  · exact hlow
  · intro _ hphase
    simp at hphase
  · intro _ _
    rw [leavePriming_clockCount]
    rcases fireFall_clockCount h (h.armed_eq_busy ▸ ha) with ⟨hT, e⟩ | e <;> rw [e] <;> omega

section
variable {s t : State} {k : Nat} (h : CycleStart s) (hbusy : BusyBefore k s) (hrun : RunsTo k s t) (ht : Running t)
include h hbusy hrun ht

theorem lowIsCounted_of_runsTo : LowIsCounted t := by
  refine running_induction (I := fun _ => LowIsCounted) h.inv (fun hne => absurd h.state hne) ?_ hbusy hrun ht
  rintro _ u v hinv ⟨hb, _⟩ hst hv hlow
  obtain ⟨_, _, r, ⟨hb', _⟩, rfl⟩ := step_running hinv hb hst hv
  refine lowIsCounted_tickPhase (inv_readerPhase (inv_answer hinv r) hb _) ?_
  rw [readerPhase_running hb']
  exact hlow

theorem trigShape_of_runsTo : TrigShape t :=
  running_induction (I := fun _ => TrigShape) h.inv (fun _ hne => absurd h.state hne)
    (fun _ u v hinv _ hst _ hshape => everyEdgeKeepsTriggerShape u v hinv hshape hst) hbusy hrun ht

/-- Which half-period an edge of the cycle falls in (R108). -/
theorem clockPhase_low_iff : t.clockPhase = .low ↔ k % period s < s.lowTicks.toNat := by
  obtain ⟨_, hlow, hhigh⟩ := firingTimesExact s t k h hbusy hrun ht.1 ht.2
  constructor
  · intro hphase
    by_contra hge
    obtain ⟨e, _⟩ := hhigh (Nat.le_of_not_lt hge)
    simp [e] at hphase
  · intro hlt
    obtain ⟨e, _⟩ := hlow hlt
    exact e

/-- The cycle is in PRIMING up to the first firing, at edge `Lo` (R110, R163). -/
theorem priming_iff_of_runsTo : t.state = .priming ↔ k < s.lowTicks.toNat := by
  have hinv := inv_runsTo h.inv hrun
  have hphase := clockPhase_low_iff h hbusy hrun ht
  obtain ⟨hcount, _⟩ := firingTimesExact s t k h hbusy hrun ht.1 ht.2
  have hle : s.lowTicks.toNat ≤ period s := Nat.le_add_right _ _
  constructor
  · intro hpriming
    obtain ⟨hlow, hzero, _⟩ := hinv.priming hpriming
    have hdiv : k / period s = 0 := hcount.symm.trans (congrArg BitVec.toNat hzero)
    have hmod := Nat.div_add_mod k (period s)
    rw [hdiv, Nat.mul_zero, Nat.zero_add] at hmod
    exact lt_of_eq_of_lt hmod.symm (hphase.1 hlow)
  · intro hlt
    by_contra hpast
    rw [Nat.div_eq_of_lt (by omega)] at hcount
    rw [Nat.mod_eq_of_lt (by omega)] at hphase
    exact lowIsCounted_of_runsTo h hbusy hrun ht hpast (hphase.2 hlt) hcount

end

/-! ## The lines at every edge (R114) -/

theorem phaseBit_eq_decide (p : Phase) : phaseBit p = decide (p ≠ .low) := by cases p <;> rfl

/-- An edge `q` clock periods and `r < p` timer units after START comes before edge `T p + lo` iff it does so lexicographically. -/
theorem mul_add_lt_mul_add_iff {p q r T lo : Nat} (hr : r < p) (hlo : lo ≤ p) :
    p * q + r < T * p + lo ↔ q < T ∨ (q = T ∧ r < lo) := by
  rw [Nat.mul_comm T p]
  rcases Nat.lt_trichotomy q T with hlt | rfl | hgt
  · have hmul : p * (q + 1) ≤ p * T := Nat.mul_le_mul_left p hlt
    rw [Nat.mul_succ] at hmul
    omega
  · omega
  · have hmul : p * (T + 1) ≤ p * q := Nat.mul_le_mul_left p hgt
    rw [Nat.mul_succ] at hmul
    omega

/-- Settles O50: PRIMING is the part before edge `Lo`, with the lines at 1 and 0; past it `clk_out` follows the phase and `trig_out`
its level, and phase and count are remainder and quotient of `k` by the clock period. -/
theorem lineWaveforms : Obligations.LineWaveforms := by
  intro s t k h hbusy hrun hb hto
  have ht : Running t := ⟨hb, hto⟩
  have hinv := inv_runsTo h.inv hrun
  have hpriming := priming_iff_of_runsTo h hbusy hrun ht
  have hle : s.lowTicks.toNat ≤ period s := Nat.le_add_right _ _
  by_cases hfirst : t.state = .priming
  · have hk := hpriming.1 hfirst
    obtain ⟨_, _, hclk, htrig, _⟩ := hinv.priming hfirst
    rw [hclk, htrig]
    exact ⟨(decide_eq_true (.inl (Nat.lt_of_lt_of_le hk hle))).symm, (decide_eq_false (by omega)).symm⟩
  · have hk : s.lowTicks.toNat ≤ k := Nat.le_of_not_lt (mt hpriming.2 hfirst)
    have hphase := clockPhase_low_iff h hbusy hrun ht
    obtain ⟨hcount, _⟩ := firingTimesExact s t k h hbusy hrun hb hto
    obtain ⟨⟨_, _, hT, _⟩, _⟩ := cycleTime_eq_of_runsTo h hbusy hrun ht
    have hconfig := h.inv.config_valid ((busy_iff _).2 (.inl h.state))
    obtain ⟨_, hpos⟩ := halfTicks_pos h.inv.params_legal hconfig
    have hmod := Nat.mod_lt k (Nat.lt_of_lt_of_le hpos hle)
    have hwindow := mul_add_lt_mul_add_iff (q := k / period s) (T := s.trigHighClocks.toNat) hmod hle
    rw [Nat.div_add_mod] at hwindow
    constructor
    · rw [hinv.clk_eq_phase hb hfirst, phaseBit_eq_decide, decide_eq_decide, Ne, hphase, Nat.not_lt]
      exact (or_iff_right_of_imp fun hlt => (Nat.mod_eq_of_lt hlt).symm ▸ hk).symm
    · rw [trigShape_of_runsTo h hbusy hrun ht hb hfirst, trigLevel, decide_eq_decide, hphase, ← BitVec.toNat_inj, hcount, hT,
        hwindow]
      exact (and_iff_right hk).symm

end Sys2Proof.Machine
end

section
/-! PROOFS. The synchronizer (R130, R131): which agents can raise `sampleReadyFlag`.  READER and HOST never do, and TICK does by the
FIRE_FALL that reaches the threshold only.  Then the statement of this family. -/

namespace Sys2Proof.Machine

/-! ## TICK -/

@[simp] theorem leavePriming_sampleReadyFlag (s : State) : (leavePriming s).sampleReadyFlag = s.sampleReadyFlag := by
  rw [leavePriming_eq]

/-- A FIRE_FALL that raises the flag has counted a clock period and reached the threshold (R112, R130). -/
theorem fireFall_sets_sampleReadyFlag {s : State} (hclear : s.sampleReadyFlag = false)
    (hset : (fireFall s).sampleReadyFlag = true) :
    (fireFall s).clockCount = s.clockCount + 1 ∧ s.readThresholdClock.toNat ≤ (fireFall s).clockCount.toNat := by
  rcases fireFall_cases s with ⟨_, e⟩ | ⟨_, _, e⟩ | ⟨_, hreached, e⟩ <;> rw [e] at hset ⊢
  · simp [hclear] at hset
  · simp [hclear] at hset
  · exact ⟨rfl, hreached⟩

/-- TICK raises the flag by a FIRE_FALL only; its other three turns leave it alone (R131). -/
theorem tickPhase_sets_sampleReadyFlag {s : State} (hclear : s.sampleReadyFlag = false)
    (hset : (tickPhase s).sampleReadyFlag = true) :
    s.clockPhase = .high ∧ s.tickCount.toNat + 1 = s.tickCompare.toNat ∧ (tickPhase s).clockPhase = .low ∧
    (tickPhase s).clockCount = s.clockCount + 1 ∧
    (tickPhase s).readThresholdClock.toNat ≤ (tickPhase s).clockCount.toNat := by
  have hthreshold : (tickPhase s).readThresholdClock = s.readThresholdClock := by rw [tickPhase_frame]
  rw [hthreshold]
  rcases tickPhase_cases s with ⟨_, e⟩ | ⟨_, _, e⟩ | ⟨_, _, _, e⟩ | ⟨_, hmatch, hhigh, e⟩ <;> rw [e] at hset ⊢
  · simp [hclear] at hset
  · simp [hclear] at hset
  · simp [hclear] at hset
  · rw [leavePriming_sampleReadyFlag] at hset
    rw [leavePriming_clockPhase, leavePriming_clockCount]
    exact ⟨hhigh, hmatch, fireFall_clockPhase s, fireFall_sets_sampleReadyFlag hclear hset⟩

/-! ## READER and HOST -/

@[simp] theorem push_sampleReadyFlag (v : Sample) (s : State) : (push v s).sampleReadyFlag = s.sampleReadyFlag := by
  rw [push_frame]

@[simp] theorem rdPush_sampleReadyFlag (v : Sample) (s : State) : (rdPush v s).sampleReadyFlag = s.sampleReadyFlag := by
  rcases rdPush_cases v s with ⟨_, e⟩ | ⟨_, e⟩ <;> simp [e]

/-- READER only ever clears the flag, by RD_CONSUME (R155). -/
theorem readerPhase_keeps_sampleReadyFlag_clear (inp : PortSample) {s : State} (hclear : s.sampleReadyFlag = false) :
    (readerPhase inp s).sampleReadyFlag = false := by
  rcases readerPhase_cases inp s with ⟨_, e⟩ | ⟨_, _, _, e⟩ | ⟨_, _, _, e⟩ | ⟨_, _, e⟩ <;> simp [e, hclear]

/-- READER leaves the phase, the counters and the compare value that TICK reads alone (R154 to R160). -/
theorem readerPhase_keeps_counters (inp : PortSample) (s : State) :
    (readerPhase inp s).clockPhase = s.clockPhase ∧ (readerPhase inp s).tickCount = s.tickCount ∧
    (readerPhase inp s).tickCompare = s.tickCompare ∧ (readerPhase inp s).clockCount = s.clockCount := by
  rw [readerPhase_frame]
  exact ⟨rfl, rfl, rfl, rfl⟩

/-- The HOST's turn never raises the flag; START clears it (R151). -/
theorem exec_resting_keeps_sampleReadyFlag_clear {i : Instr} {s w : State} (hb : busy s.state = false)
    (hclear : s.sampleReadyFlag = false) (hw : exec i s = .next w) : w.sampleReadyFlag = false := by
  rcases exec_idle hb hw with ⟨_, rfl⟩ | ⟨_, _, rfl⟩ | ⟨_, _, rfl⟩ | ⟨_, _, rfl⟩ | ⟨_, _, rfl⟩ | ⟨_, rfl⟩
  case inr.inr.inr.inr.inr => rcases startCmd_cases s with ⟨_, e⟩ | ⟨_, e⟩ <;> simp [e, hclear]
  all_goals exact hclear

/-! ## The edge -/

/-- An edge that raises the flag is no reset, which clears it, and finds the block busy (R93, R131). -/
theorem busy_of_step_sets_sampleReadyFlag {s t : State} (hst : step s = .next t) (hclear : s.sampleReadyFlag = false)
    (hset : t.sampleReadyFlag = true) : presented s ≠ .reset ∧ busy s.state = true := by
  have hr : presented s ≠ .reset := by
    intro hr
    rw [step_reset hr hst] at hset
    cases hset
  cases hb : busy s.state with
  | true => exact ⟨hr, rfl⟩
  | false =>
    rcases step_resting hb hr hst with ⟨r, rfl⟩ | ⟨i, w, hw, rfl⟩
    · simp [hclear] at hset
    · simp [exec_resting_keeps_sampleReadyFlag_clear hb hclear hw] at hset

/-- Settles O25: at a busy edge READER passes the flag on clear, so TICK raises it, from the counters of the state before the edge. -/
theorem readySetOnlyAtPeriodEnd : Obligations.ReadySetOnlyAtPeriodEnd := by
  intro s t hst hclear hset
  obtain ⟨hr, hb⟩ := busy_of_step_sets_sampleReadyFlag hst hclear hset
  obtain ⟨r, rfl⟩ := step_busy hb hr hst
  have hreader := readerPhase_keeps_sampleReadyFlag_clear (nextInput s) (s := { s with resp := r }) hclear
  have htick := tickPhase_sets_sampleReadyFlag hreader hset
  obtain ⟨hphase, hcount, hcompare, hclocks⟩ := readerPhase_keeps_counters (nextInput s) { s with resp := r }
  rw [hphase, hcount, hcompare, hclocks] at htick
  exact ⟨hb, htick⟩

end Sys2Proof.Machine
end

section
/-! PROOFS. RD_PUSH in whole states (R141, R142, R156, R158): what it leaves in a buffer that was full and in one with room.  Then
the statement of this family. -/

namespace Sys2Proof.Machine

/-- In a full buffer RD_PUSH drops the sample, records CapacityExceeded and ends the cycle (R141, R156, R158). -/
theorem rdPush_of_full (v : Sample) {s : State} (hfull : s.cursor.toNat = s.params.pixelCount) :
    rdPush v s = { s with
      armed := false, clkOut := true, trigOut := false, adcPending := false, adcStart := false, state := .complete
      capErrFlag := true } := by
  have hpush : push v { s with adcPending := false, adcStart := false } =
      { s with adcPending := false, adcStart := false, capErrFlag := true } := by
    rcases push_cases v { s with adcPending := false, adcStart := false } with ⟨_, e⟩ | ⟨hroom, _⟩
    · exact e
    · exact absurd hfull hroom
  rcases rdPush_cases v s with ⟨_, e⟩ | ⟨hnot, _⟩
  · rw [e, hpush]
    rfl
  · rw [hpush] at hnot
    exact absurd hfull (of_decide_eq_false hnot)

/-- In a buffer with room RD_PUSH stores at the cursor and steps it; the push that fills the buffer ends the cycle (R141, R156,
R158, R159). -/
theorem rdPush_of_room (v : Sample) {s : State} (hp : s.params.Legal) (hroom : s.cursor.toNat < s.params.pixelCount) :
    rdPush v s =
      if s.cursor.toNat + 1 = s.params.pixelCount then
        { s with
          buf := s.buf.write s.cursor.toNat (truncateSample s.params.sampleBits v), cursor := s.cursor + 1
          armed := false, clkOut := true, trigOut := false, adcPending := false, adcStart := false, state := .complete }
      else
        { s with
          buf := s.buf.write s.cursor.toNat (truncateSample s.params.sampleBits v), cursor := s.cursor + 1
          adcPending := false, adcStart := false } := by
  have hpush := push_of_room v (s := { s with adcPending := false, adcStart := false }) hroom
  have hcursor := cursor_succ_toNat hp hroom
  rcases rdPush_cases v s with ⟨hfull, e⟩ | ⟨hnot, e⟩
  · rw [hpush] at hfull
    rw [e, hpush, if_pos (hcursor.symm.trans (of_decide_eq_true hfull))]
    rfl
  · rw [hpush] at hnot
    rw [e, hpush, if_neg fun h => of_decide_eq_false hnot (hcursor.trans h)]

theorem rdPush_cursor_of_room (v : Sample) {s : State} (hp : s.params.Legal)
    (hroom : s.cursor.toNat < s.params.pixelCount) : (rdPush v s).cursor = s.cursor + 1 := by
  rw [rdPush_of_room v hp hroom]
  split <;> rfl

theorem rdPush_buf_of_room (v : Sample) {s : State} (hp : s.params.Legal)
    (hroom : s.cursor.toNat < s.params.pixelCount) :
    (rdPush v s).buf = s.buf.write s.cursor.toNat (truncateSample s.params.sampleBits v) := by
  rw [rdPush_of_room v hp hroom]
  split <;> rfl

/-- Settles O29: the entries by `bufEntry_rdPush`, the rest from the whole state RD_PUSH leaves in a full buffer and in one with
room. -/
theorem pushStoresSample : Obligations.PushStoresSample := by
  intro s v hp _
  refine ⟨fun i hi => ?others, rdPush_of_full v, fun hroom => ⟨?entry, ?cursor, ?whole⟩⟩
  case others =>
    rw [bufEntry_rdPush]
    exact if_neg fun ⟨_, h⟩ => hi h
  case entry =>
    rw [bufEntry_rdPush]
    exact if_pos ⟨Nat.ne_of_lt hroom, rfl⟩
  case cursor =>
    rw [rdPush_cursor_of_room v hp hroom]
    exact cursor_succ_toNat hp hroom
  case whole =>
    rw [rdPush_cursor_of_room v hp hroom, rdPush_buf_of_room v hp hroom]
    exact rdPush_of_room v hp hroom

end Sys2Proof.Machine
end

section
/-! PROOFS. The orchestrator (R150 to R164): READER's four turns as equations, the edge that ends a timed-out cycle, the measure
`edgesLeft` that every edge of a running cycle lowers, the stages of a cycle and every transition of `state`, and that the agents do
not read the placed inputs.  Then the statements of this family. -/

namespace Sys2Proof.Machine

/-! ## READER's turns (R154) -/

theorem readerPhase_eq_terminate (inp : PortSample) {s : State} (ht : s.timeoutFlag = true) :
    readerPhase inp s = terminate .idle s :=
  if_pos ht

theorem readerPhase_eq_rdPush {inp : PortSample} {s : State} (ht : s.timeoutFlag = false) (hp : s.adcPending = true)
    (hd : inp.adcDone = true) : readerPhase inp s = rdPush inp.adcData s := by
  simp [readerPhase, ht, hp, hd]

theorem readerPhase_eq_rdWait {inp : PortSample} {s : State} (ht : s.timeoutFlag = false)
    (hwait : (s.adcPending = true ∧ inp.adcDone = false) ∨ (s.adcPending = false ∧ s.sampleReadyFlag = false)) :
    readerPhase inp s = rdWait s := by
  rcases hwait with ⟨hp, hd⟩ | ⟨hp, hr⟩
  · simp [readerPhase, ht, hp, hd]
  · simp [readerPhase, ht, hp, hr]

/-- Settles O28: each premise selects one turn, and the turns that are not RD_PUSH are the states written out. -/
theorem readerTurn : Obligations.ReaderTurn := fun inp _ =>
  ⟨readerPhase_eq_terminate inp, readerPhase_eq_rdPush, readerPhase_eq_rdConsume inp, readerPhase_eq_rdWait⟩

/-! ## The end of a timed-out cycle (R160) -/

theorem tickPhase_of_disarmed {s : State} (ha : s.armed = false) : tickPhase s = s := by
  obtain ⟨hdisarmed, _⟩ := tickAdvanceEffect s
  exact hdisarmed ha

/-- Settles O31: READER ends the cycle whatever was delivered, and its DISARM leaves TICK nothing to do. -/
theorem timeoutEndsCycle : Obligations.TimeoutEndsCycle := by
  intro s hrst hb ht
  obtain ⟨t, hst⟩ := step_next s
  obtain ⟨r, rfl⟩ := step_busy hb (presented_ne_reset hrst) hst
  rw [readerPhase_eq_terminate _ (s := { s with resp := r }) ht, tickPhase_of_disarmed rfl] at hst
  exact ⟨r, hst⟩

/-- With a timeout recorded the block is in IDLE after the next edge, be it a reset edge or not. -/
theorem step_state_of_timeout {s t : State} (hb : busy s.state = true) (ht : s.timeoutFlag = true)
    (hst : step s = .next t) : t.state = .idle := by
  cases hrst : (nextInput s).rst with
  | true =>
    rw [step_reset ((presented_eq_reset_iff s).2 hrst) hst]
    rfl
  | false =>
    obtain ⟨r, e⟩ := timeoutEndsCycle s hrst hb ht
    rw [e, Host.Outcome.next.injEq] at hst
    rw [← hst]

/-! ## Every cycle ends (R164) -/

/-- A busy block has not completed a clock period beyond its limit (R37 items 3 and 6). -/
theorem Inv.cycleTime_lt {s : State} (h : Inv s) (hb : busy s.state = true) :
    cycleTime s < (s.cycleLimitClocks.toNat + 1) * period s := by
  have hphase := h.phaseTime_lt_period (h.armed_of_busy hb)
  have hcount := Nat.mul_le_mul_left (period s) (h.count_le_limit hb)
  rw [cycleTime, Nat.succ_mul, Nat.mul_comm s.cycleLimitClocks.toNat]
  omega

/-- How many more edges a cycle can run before its timeout is recorded. -/
def edgesLeft (s : State) : Nat :=
  if s.timeoutFlag then 0 else (s.cycleLimitClocks.toNat + 1) * period s - cycleTime s

theorem edgesLeft_le (s : State) : edgesLeft s ≤ (s.cycleLimitClocks.toNat + 1) * period s := by
  unfold edgesLeft
  split <;> omega

/-- An edge that does not end the cycle uses up one of its edges, or records the timeout (R108, R112). -/
theorem edgesLeft_step {s t : State} (h : Inv s) (hb : busy s.state = true) (hst : step s = .next t)
    (hbt : busy t.state = true) : edgesLeft t < edgesLeft s := by
  have hlt := h.cycleTime_lt hb
  have hto : s.timeoutFlag = false := by
    by_contra hne
    rw [step_state_of_timeout hb (Bool.eq_true_of_not_eq_false hne) hst] at hbt
    cases hbt
  cases htt : t.timeoutFlag with
  | true =>
    simp only [edgesLeft, hto, htt, reduceCtorEq, if_true, if_false]
    omega
  | false =>
    obtain ⟨hrst, _⟩ := step_running h hb hst ⟨hbt, htt⟩
    obtain ⟨hhigh, hlow, _, hlimit, _⟩ := configurationFrozenWhileBusy s t hb hrst hst
    have hperiod : period t = period s := by rw [period, period, hhigh, hlow]
    simp only [edgesLeft, hto, htt, reduceCtorEq, if_false, hlimit, hperiod, cycleTime_step h hb hst ⟨hbt, htt⟩]
    omega

theorem cycle_ends_within_edgesLeft {s : State} (h : Inv s) (hb : busy s.state = true) :
    ∃ k t, k ≤ edgesLeft s + 1 ∧ RunsTo k s t ∧ busy t.state = false := by
  induction hn : edgesLeft s using Nat.strong_induction_on generalizing s with
  | _ n ih =>
    subst hn
    obtain ⟨u, hst⟩ := step_next s
    cases hbu : busy u.state with
    | false => exact ⟨1, u, by omega, runsTo_succ.2 ⟨u, hst, runsTo_zero.2 rfl⟩, hbu⟩
    | true =>
      have hless := edgesLeft_step h hb hst hbu
      obtain ⟨k, t, hk, hrun, hend⟩ := ih _ hless (inv_step h hst) hbu rfl
      exact ⟨k + 1, t, by omega, runsTo_succ.2 ⟨u, hst, hrun⟩, hend⟩

/-- Settles O48: `edgesLeft` falls at every edge of the cycle and starts within the bound. -/
theorem everyCycleEnds : Obligations.EveryCycleEnds := by
  intro s h hb
  obtain ⟨k, t, hk, hrun, hend⟩ := cycle_ends_within_edgesLeft h hb
  exact ⟨k, t, hk.trans (Nat.succ_le_succ (edgesLeft_le s)), hrun, hend⟩

/-! ## The stages of a cycle (R163, R132) -/

/-- A running cycle is in READING exactly when it has completed a clock period and reached the threshold. -/
def ReadingFromThreshold (s : State) : Prop :=
  busy s.state = true → (s.state = .reading ↔ max 1 s.readThresholdClock.toNat ≤ s.clockCount.toNat)

theorem afterFiring_eq_reading_iff (st : CycleState) : afterFiring st = .reading ↔ st = .reading := by
  cases st <;> simp [afterFiring]

/-- FIRE_FALL enters READING when the period it completes reaches the threshold, and leaves no running READING (R112, R130). -/
theorem fireFall_reading_iff {s : State} (h : Inv s) (hshape : ReadingFromThreshold s) (hb : busy s.state = true)
    (hhigh : s.clockPhase = .high) :
    (fireFall s).state = .reading ↔ max 1 s.readThresholdClock.toNat ≤ (fireFall s).clockCount.toNat := by
  have hbefore := hshape hb
  rcases fireFall_cases s with ⟨_, e⟩ | ⟨hne, hbelow, e⟩ | ⟨hne, hreached, e⟩
  · rw [e]
    exact hbefore
  · have hsucc := clockCount_succ_toNat (h.clockCount_lt hb hne)
    rw [e]
    show s.state = .reading ↔ max 1 s.readThresholdClock.toNat ≤ (s.clockCount + 1).toNat
    rw [hbefore]
    omega
  · have hsucc := clockCount_succ_toNat (h.clockCount_lt hb hne)
    have hreading : (if s.state = .integrating then CycleState.reading else s.state) = .reading := by
      rcases (busy_iff _).1 hb with hs | hs | hs
      · exact absurd hs (h.not_priming hhigh)
      · simp [hs]
      · simp [hs]
    rw [e]
    exact iff_of_true hreading (show max 1 s.readThresholdClock.toNat ≤ (s.clockCount + 1).toNat by omega)

theorem readingFromThreshold_tickPhase {s : State} (h : Inv s) (hshape : ReadingFromThreshold s) :
    ReadingFromThreshold (tickPhase s) := by
  have hthreshold : (fireFall s).readThresholdClock = s.readThresholdClock := by
    rcases fireFall_cases s with ⟨_, e⟩ | ⟨_, _, e⟩ | ⟨_, _, e⟩ <;> rw [e]
  rcases tickPhase_cases s with ⟨_, e⟩ | ⟨_, _, e⟩ | ⟨ha, _, _, e⟩ | ⟨ha, _, hhigh, e⟩ <;> rw [e]
  · exact hshape
  · exact hshape
  · rw [leavePriming_eq]
    exact fun _ => (afterFiring_eq_reading_iff _).trans (hshape (h.armed_eq_busy ▸ ha))
  · rw [leavePriming_eq]
    intro _
    show afterFiring (fireFall s).state = .reading ↔
      max 1 (fireFall s).readThresholdClock.toNat ≤ (fireFall s).clockCount.toNat
    rw [afterFiring_eq_reading_iff, hthreshold]
    exact fireFall_reading_iff h hshape (h.armed_eq_busy ▸ ha) hhigh

theorem CycleStart.readingFromThreshold {s : State} (h : CycleStart s) : ReadingFromThreshold s := by
  obtain ⟨_, hzero, _⟩ := h.inv.priming h.state
  intro _
  simp [h.state, hzero]

section
variable {s t : State} {k : Nat} (h : CycleStart s) (hbusy : BusyBefore k s) (hrun : RunsTo k s t) (ht : Running t)
include h hbusy hrun ht

theorem readingFromThreshold_of_runsTo : ReadingFromThreshold t := by
  refine running_induction (I := fun _ => ReadingFromThreshold) h.inv h.readingFromThreshold ?_ hbusy hrun ht
  rintro _ u v hinv ⟨hb, _⟩ hst hv hshape
  obtain ⟨_, _, r, ⟨hb', _⟩, rfl⟩ := step_running hinv hb hst hv
  refine readingFromThreshold_tickPhase (inv_readerPhase (inv_answer hinv r) hb _) ?_
  rw [readerPhase_running hb']
  exact hshape

/-- The cycle is in READING from edge `(T + L)(Lo + Hi)` on, but not before the first completed clock period (R132, R163). -/
theorem reading_iff_of_runsTo :
    t.state = .reading ↔ max 1 (s.trigHighClocks.toNat + s.params.pipelineLatencyClocks) * period s ≤ k := by
  have hbs : busy s.state = true := (busy_iff _).2 (.inl h.state)
  obtain ⟨hcount, _⟩ := firingTimesExact s t k h hbusy hrun ht.1 ht.2
  obtain ⟨⟨_, _, _, _, hthreshold⟩, _⟩ := cycleTime_eq_of_runsTo h hbusy hrun ht
  obtain ⟨_, hpos⟩ := halfTicks_pos h.inv.params_legal (h.inv.config_valid hbs)
  have hperiod : 0 < period s := Nat.add_pos_left hpos _
  rw [readingFromThreshold_of_runsTo h hbusy hrun ht ht.1, hthreshold, h.inv.threshold hbs, hcount,
    Nat.le_div_iff_mul_le hperiod]

end

/-- Settles O51: PRIMING ends with the first firing, READING begins with the first ready event, and a running cycle is in
INTEGRATING otherwise. -/
theorem cycleStages : Obligations.CycleStages := by
  intro s t k h hbusy hrun hb hto
  have hpriming := priming_iff_of_runsTo h hbusy hrun ⟨hb, hto⟩
  have hreading := reading_iff_of_runsTo h hbusy hrun ⟨hb, hto⟩
  by_cases hfirst : k < s.lowTicks.toNat
  · rw [if_pos hfirst]
    exact hpriming.2 hfirst
  · rw [if_neg hfirst]
    by_cases hearly : k < max 1 (s.trigHighClocks.toNat + s.params.pipelineLatencyClocks) * period s
    · rw [if_pos hearly]
      rcases (busy_iff _).1 hb with hs | hs | hs
      · exact absurd (hpriming.1 hs) hfirst
      · exact hs
      · exact absurd hearly (Nat.not_lt_of_le (hreading.1 hs))
    · rw [if_neg hearly]
      exact hreading.2 (Nat.le_of_not_lt hearly)

/-! ## Every transition of `state` (R163) -/

theorem step_params {s t : State} (hst : step s = .next t) : t.params = s.params := by
  obtain ⟨u, hu, _, _, hparams⟩ := everyEdgeAnswers s
  rw [hst, Host.Outcome.next.injEq] at hu
  exact hu ▸ hparams

/-- START in a resting block begins a cycle or reports its configuration invalid (R151). -/
theorem step_start {s t : State} (hb : busy s.state = false) (hp : presented s = .op .start) (hst : step s = .next t) :
    (configInvalid s = false ∧ t.state = .priming) ∨ (configInvalid s = true ∧ t.state = .idle) := by
  have hexec : exec .start s = .next (respond 0 false (startCmd s)) := congrArg _ (hostWrite_idle startCmd hb)
  rw [step_op hp hexec, finishEdge_resting hb, Host.Outcome.next.injEq] at hst
  subst hst
  rcases startCmd_cases s with ⟨hc, e⟩ | ⟨hc, e⟩ <;> rw [e]
  · exact .inr ⟨hc, rfl⟩
  · exact .inl ⟨hc, rfl⟩

/-- Before READING, with no timeout recorded, READER has nothing to do (R150). -/
theorem Inv.readerPhase_before_reading {s : State} (h : Inv s) (hs : s.state = .priming ∨ s.state = .integrating)
    (hto : s.timeoutFlag = false) (inp : PortSample) : readerPhase inp s = rdWait s := by
  obtain ⟨hready, hpending, _⟩ := h.before_reading hs
  exact readerPhase_eq_rdWait hto (.inr ⟨hpending, hready⟩)

/-- PRIMING ends with the first firing, a FIRE_RISE (R110). -/
theorem tickPhase_state_of_priming {s : State} (h : Inv s) (hs : s.state = .priming) :
    (s.tickCount.toNat + 1 ≠ s.tickCompare.toNat ∧ (tickPhase s).state = .priming) ∨
    (s.tickCount.toNat + 1 = s.tickCompare.toNat ∧ s.clockPhase = .low ∧ (tickPhase s).state = .integrating) := by
  have ha := h.armed_of_busy ((busy_iff _).2 (.inl hs))
  rcases tickPhase_cases s with ⟨hdis, _⟩ | ⟨_, hne, e⟩ | ⟨_, hmatch, hlow, e⟩ | ⟨_, _, hhigh, _⟩
  · simp [ha] at hdis
  · exact .inl ⟨hne, by rw [e, tickAdvance_state, hs]⟩
  · exact .inr ⟨hmatch, hlow, by rw [e, leavePriming_eq, fireRise_state, hs]; rfl⟩
  · exact absurd hs (h.not_priming hhigh)

/-- INTEGRATING ends with the first ready event (R130). -/
theorem tickPhase_state_of_integrating {s : State} (hs : s.state = .integrating) (hclear : s.sampleReadyFlag = false) :
    ((tickPhase s).sampleReadyFlag = false ∧ (tickPhase s).state = .integrating) ∨
    ((tickPhase s).sampleReadyFlag = true ∧ (tickPhase s).state = .reading) := by
  rcases tickPhase_cases s with ⟨_, e⟩ | ⟨_, _, e⟩ | ⟨_, _, _, e⟩ | ⟨_, _, _, e⟩ <;> rw [e]
  · exact .inl ⟨hclear, hs⟩
  · exact .inl ⟨hclear, hs⟩
  · rw [leavePriming_eq, fireRise_state, hs]
    exact .inl ⟨hclear, rfl⟩
  · rw [leavePriming_eq]
    rcases fireFall_cases s with ⟨_, e⟩ | ⟨_, _, e⟩ | ⟨_, _, e⟩ <;> rw [e, hs]
    · exact .inl ⟨hclear, rfl⟩
    · exact .inl ⟨hclear, rfl⟩
    · exact .inr ⟨rfl, rfl⟩

/-- TICK never takes a cycle out of READING (R163). -/
theorem tickPhase_state_of_reading {s : State} (hs : s.state = .reading) : (tickPhase s).state = .reading := by
  rcases tickPhase_cases s with ⟨_, e⟩ | ⟨_, _, e⟩ | ⟨_, _, _, e⟩ | ⟨_, _, _, e⟩ <;> rw [e]
  · exact hs
  · exact hs
  · rw [leavePriming_eq, fireRise_state, hs]
    rfl
  · rw [leavePriming_eq]
    rcases fireFall_cases s with ⟨_, e⟩ | ⟨_, _, e⟩ | ⟨_, _, e⟩ <;> rw [e, hs] <;> rfl

section
variable {s t : State} (h : Inv s) (hr : presented s ≠ .reset) (hst : step s = .next t)
include h hr hst

theorem step_of_priming (hs : s.state = .priming) :
    (s.tickCount.toNat + 1 ≠ s.tickCompare.toNat ∧ t.state = .priming) ∨
    (s.tickCount.toNat + 1 = s.tickCompare.toNat ∧ s.clockPhase = .low ∧ t.state = .integrating) := by
  obtain ⟨r, rfl⟩ := step_busy ((busy_iff _).2 (.inl hs)) hr hst
  have hinv := inv_answer h r
  rw [hinv.readerPhase_before_reading (.inl hs) (h.priming_no_timeout hs)]
  exact tickPhase_state_of_priming (inv_rdWait hinv) hs

theorem step_of_integrating (hs : s.state = .integrating) (hto : s.timeoutFlag = false) :
    (t.sampleReadyFlag = false ∧ t.state = .integrating) ∨
    (s.sampleReadyFlag = false ∧ t.sampleReadyFlag = true ∧ t.state = .reading) := by
  obtain ⟨r, rfl⟩ := step_busy ((busy_iff _).2 (.inr (.inl hs))) hr hst
  obtain ⟨hclear, _⟩ := h.before_reading (.inr hs)
  rw [(inv_answer h r).readerPhase_before_reading (.inr hs) hto]
  rcases tickPhase_state_of_integrating (s := rdWait { s with resp := r }) hs hclear with hstay | hready
  · exact .inl hstay
  · exact .inr ⟨hclear, hready⟩

/-- READING goes on until a push fills the buffer (R156, R159). -/
theorem step_of_reading (hs : s.state = .reading) (hto : s.timeoutFlag = false) :
    t.state = .reading ∨
    (t.cursor.toNat = s.cursor.toNat + 1 ∧ t.cursor.toNat = s.params.pixelCount ∧ t.state = .complete) := by
  have hb : busy s.state = true := (busy_iff _).2 (.inr (.inr hs))
  have hroom := h.cursor_lt hb
  have hcursor := cursor_succ_toNat h.params_legal hroom
  obtain ⟨r, rfl⟩ := step_busy hb hr hst
  rcases readerPhase_cases (nextInput s) { s with resp := r } with ⟨ht, _⟩ | ⟨_, _, _, e⟩ | ⟨_, _, _, e⟩ | ⟨_, _, e⟩
  · simp [hto] at ht
  · rw [e, rdPush_of_room _ (s := { s with resp := r }) h.params_legal hroom]
    by_cases hlast : s.cursor.toNat + 1 = s.params.pixelCount
    · rw [if_pos hlast, tickPhase_of_disarmed rfl]
      exact .inr ⟨hcursor, hcursor.trans hlast, rfl⟩
    · rw [if_neg hlast]
      exact .inl (tickPhase_state_of_reading hs)
  · rw [e]
    exact .inl (tickPhase_state_of_reading hs)
  · rw [e]
    exact .inl (tickPhase_state_of_reading hs)

end

/-- Settles O39: a resting block leaves its state by START only, a timeout ends any cycle, and otherwise the stage of the cycle says
which event can happen; a cycle that goes on has room in the buffer. -/
theorem stateTransitionTable : Obligations.StateTransitionTable := by
  intro s t h hst
  by_cases hr : presented s = .reset
  · exact .inl ⟨hr, by rw [step_reset hr hst]; rfl⟩
  refine .inr ⟨hr, ?_⟩
  have hroom (hbt : busy t.state = true) : t.cursor.toNat ≠ s.params.pixelCount :=
    step_params hst ▸ Nat.ne_of_lt ((inv_step h hst).cursor_lt hbt)
  cases hb : busy s.state with
  | false =>
    by_cases hp : presented s = .op .start
    · rcases step_start hb hp hst with ⟨hc, ht⟩ | ⟨hc, ht⟩
      · exact .inr (.inl ⟨hp, rfl, hc, ht⟩)
      · exact .inr (.inr (.inl ⟨hp, rfl, hc, ht⟩))
    · have hkeep := restingBlockKeepsState s t hb hr hp hst
      exact .inl ⟨hp, rfl, by rw [hkeep]⟩
  | true =>
    cases hto : s.timeoutFlag with
    | true =>
      have hpast : s.state = .integrating ∨ s.state = .reading :=
        ((busy_iff _).1 hb).resolve_left fun hs => by simp [h.priming_no_timeout hs] at hto
      exact .inr (.inr (.inr (.inr (.inr (.inr (.inr ⟨hpast, rfl, step_state_of_timeout hb hto hst⟩))))))
    | false =>
      rcases (busy_iff _).1 hb with hs | hs | hs
      · rcases step_of_priming h hr hst hs with ⟨hne, ht⟩ | hfire
        · exact .inr (.inr (.inr (.inl
            ⟨rfl, ht.trans hs.symm, rfl, hroom (by rw [ht]; rfl), fun ⟨_, hmatch⟩ => hne hmatch, by simp [hs]⟩)))
        · exact .inr (.inr (.inr (.inr (.inl ⟨hs, hfire⟩))))
      · rcases step_of_integrating h hr hst hs hto with ⟨hclear, ht⟩ | hready
        · exact .inr (.inr (.inr (.inl
            ⟨rfl, ht.trans hs.symm, rfl, hroom (by rw [ht]; rfl), by simp [hs], by simp [hclear]⟩)))
        · exact .inr (.inr (.inr (.inr (.inr (.inl ⟨hs, hready⟩)))))
      · rcases step_of_reading h hr hst hs hto with ht | hfull
        · exact .inr (.inr (.inr (.inl
            ⟨rfl, ht.trans hs.symm, rfl, hroom (by rw [ht]; rfl), by simp [hs], by simp [hs]⟩)))
        · exact .inr (.inr (.inr (.inr (.inr (.inr (.inl ⟨hs, hfull⟩))))))

/-! ## The agents do not read the answer or the placed inputs (R162, R239) -/

/-- `s` with the answer `r` and the placed inputs `l`. -/
def withPorts (r : Option Response) (l : List PortSample) (s : State) : State := { s with resp := r, inputs := l }

section
variable (r : Option Response) (l : List PortSample)

theorem tickPhase_withPorts (s : State) : tickPhase (withPorts r l s) = withPorts r l (tickPhase s) := by
  rcases tickPhase_cases s with ⟨ha, e⟩ | ⟨ha, hne, e⟩ | ⟨ha, hmatch, hlow, _⟩ | ⟨ha, hmatch, hhigh, _⟩
  · rw [e, tickPhase_of_disarmed (s := withPorts r l s) ha]
  · obtain ⟨_, hadvance⟩ := tickAdvanceEffect (withPorts r l s)
    rw [e, hadvance ha hne]
    rfl
  · rw [fireRiseEffect s ha hmatch hlow, fireRiseEffect (withPorts r l s) ha hmatch hlow]
    rfl
  · rw [fireFallEffect s ha hmatch hhigh, fireFallEffect (withPorts r l s) ha hmatch hhigh, apply_ite (withPorts r l),
      apply_ite (withPorts r l)]
    rfl

theorem push_withPorts (v : Sample) (s : State) : push v (withPorts r l s) = withPorts r l (push v s) := by
  rw [push, push, apply_ite (withPorts r l)]
  rfl

theorem rdPush_withPorts (v : Sample) (s : State) : rdPush v (withPorts r l s) = withPorts r l (rdPush v s) := by
  have hpush : push v { withPorts r l s with adcPending := false, adcStart := false } =
      withPorts r l (push v { s with adcPending := false, adcStart := false }) :=
    push_withPorts r l v { s with adcPending := false, adcStart := false }
  simp only [rdPush, hpush, apply_ite (withPorts r l)]
  rfl

theorem readerPhase_withPorts (inp : PortSample) (s : State) :
    readerPhase inp (withPorts r l s) = withPorts r l (readerPhase inp s) := by
  rcases readerPhase_cases inp s with ⟨ht, e⟩ | ⟨ht, hp, hd, e⟩ | ⟨ht, hp, hr, e⟩ | ⟨ht, hwait, e⟩ <;> rw [e]
  · exact readerPhase_eq_terminate inp (s := withPorts r l s) ht
  · rw [readerPhase_eq_rdPush (s := withPorts r l s) ht hp hd, rdPush_withPorts]
  · exact readerPhase_eq_rdConsume inp (s := withPorts r l s) ht hp hr
  · exact readerPhase_eq_rdWait (s := withPorts r l s) ht hwait

theorem startCmd_withPorts (s : State) : startCmd (withPorts r l s) = withPorts r l (startCmd s) := by
  rw [startCmd, startCmd, apply_ite (withPorts r l)]
  rfl

/-- A write of the host carries the placed inputs along and answers whatever the last answer was. -/
theorem hostWrite_withPorts {f : State → State} (hf : ∀ s, f (withPorts r l s) = withPorts r l (f s)) (s : State) :
    hostWrite f (withPorts r l s) = withPorts (hostWrite f s).resp l (hostWrite f s) := by
  cases hb : busy s.state with
  | true =>
    rw [hostWrite_busy f hb, hostWrite_busy f (s := withPorts r l s) hb]
    rfl
  | false =>
    rw [hostWrite_idle f hb, hostWrite_idle f (s := withPorts r l s) hb, hf]
    rfl

theorem execRdBuf_of_lt {k : BufIndex} {s : State} (hk : k.toNat < s.params.pixelCount) :
    execRdBuf k s = .next (respond (bufWord s k) false s) := by
  rw [execRdBuf, if_pos hk]

theorem execRdBuf_of_not_lt {k : BufIndex} {s : State} (hk : ¬ k.toNat < s.params.pixelCount) :
    execRdBuf k s = .next (refuse s) := by
  rw [execRdBuf, if_neg hk]

/-- The HOST's turn carries the placed inputs along and answers whatever the last answer was. -/
theorem exec_withPorts {i : Instr} {s w : State} (h : exec i s = .next w) :
    exec i (withPorts r l s) = .next (withPorts w.resp l w) := by
  cases i
  case wrHighTicks v | wrLowTicks v | wrTrigHighClocks v | wrCycleLimitClocks v | wrCtrlNop =>
    obtain rfl := Host.Outcome.next.inj h
    exact congrArg Host.Outcome.next (hostWrite_withPorts r l (fun _ => by rfl) s)
  case start =>
    obtain rfl := Host.Outcome.next.inj h
    exact congrArg Host.Outcome.next (hostWrite_withPorts r l (startCmd_withPorts r l) s)
  case rdBuf k =>
    by_cases hk : k.toNat < s.params.pixelCount
    · obtain rfl := Host.Outcome.next.inj ((execRdBuf_of_lt hk).symm.trans h)
      exact execRdBuf_of_lt (s := withPorts r l s) hk
    · obtain rfl := Host.Outcome.next.inj ((execRdBuf_of_not_lt hk).symm.trans h)
      exact execRdBuf_of_not_lt (s := withPorts r l s) hk
  all_goals
    obtain rfl := Host.Outcome.next.inj h
    rfl

end

theorem consumeInput_withPorts {l : List PortSample} {v : State} (hl : l.tail = v.inputs.tail) :
    consumeInput (withPorts v.resp l v) = consumeInput v := by
  show { v with inputs := l.tail, edge := v.edge + 1 } = consumeInput v
  rw [hl]
  rfl

theorem nextInput_of_inputs {s : State} {inp : PortSample} {rest : List PortSample} (hs : s.inputs = inp :: rest) :
    nextInput s = inp := by
  simp [nextInput, inputAt, hs]

/-- The two samples carry the same values on the ports the HOST reads. -/
def SameHostPorts (a b : PortSample) : Prop := a.rst = b.rst ∧ a.hValid = b.hValid ∧ commandWord a = commandWord b

section
variable {s : State} {a b : PortSample} {rest : List PortSample} (hs : s.inputs = a :: rest)
include hs

theorem presented_of_sameHostPorts (hsame : SameHostPorts a b) :
    presented { s with inputs := b :: rest } = presented s := by
  obtain ⟨hrst, hvalid, hword⟩ := hsame
  simp only [presented, nextInput_of_inputs hs, nextInput_of_inputs (s := { s with inputs := b :: rest }) rfl, hrst, hvalid,
    hword]

theorem resetEdge_of_sameHostPorts (hsame : SameHostPorts a b) :
    resetEdge { s with inputs := b :: rest } = resetEdge s := by
  obtain ⟨_, hvalid, _⟩ := hsame
  simp only [resetEdge, nextInput_of_inputs hs, nextInput_of_inputs (s := { s with inputs := b :: rest }) rfl, hvalid, hs,
    List.tail_cons]

/-- An edge without reset reads the sample in READER's turn only, once the HOST's turn has given `w`. -/
theorem finishEdge_of_sameReaderPhase {w : State} (hw : w.inputs = s.inputs)
    (hreader : busy s.state = true → readerPhase b w = readerPhase a w) :
    finishEdge { s with inputs := b :: rest } (withPorts w.resp (b :: rest) w) = finishEdge s w := by
  have hrest : (b :: rest).tail = s.inputs.tail := by rw [hs]; rfl
  cases hb : busy s.state with
  | false =>
    rw [finishEdge_resting hb, finishEdge_resting (s := { s with inputs := b :: rest }) hb]
    exact consumeInput_withPorts (hrest.trans (congrArg List.tail hw.symm))
  | true =>
    have hkeep : (tickPhase (readerPhase a w)).inputs = w.inputs ∧ (tickPhase (readerPhase a w)).resp = w.resp := by
      rw [tickPhase_frame, readerPhase_frame]
      exact ⟨rfl, rfl⟩
    obtain ⟨hinputs, hresp⟩ := hkeep
    rw [finishEdge_busy hb, finishEdge_busy (s := { s with inputs := b :: rest }) hb, nextInput_of_inputs hs,
      nextInput_of_inputs (s := { s with inputs := b :: rest }) rfl, readerPhase_withPorts, hreader hb, tickPhase_withPorts,
      ← hresp]
    exact consumeInput_withPorts (hrest.trans (congrArg List.tail (hw.symm.trans hinputs.symm)))

/-- Two samples with the same host ports that READER cannot tell apart give the same edge. -/
theorem step_of_sameHostPorts (hsame : SameHostPorts a b)
    (hreader : busy s.state = true → ∀ r, readerPhase b { s with resp := r } = readerPhase a { s with resp := r }) :
    step { s with inputs := b :: rest } = step s := by
  have hp' := presented_of_sameHostPorts hs hsame
  rcases step_cases s with ⟨hp, _⟩ | ⟨hp, _⟩ | ⟨_, hp, _⟩ | ⟨i, w, hp, hw, e⟩
  · simp only [step, hp', hp, resetEdge_of_sameHostPorts hs hsame]
  · simp only [step, hp', hp]
    exact congrArg _ (finishEdge_of_sameReaderPhase hs (w := hostNone s) rfl fun hb => hreader hb none)
  · simp only [step, hp', hp]
    exact congrArg _ (finishEdge_of_sameReaderPhase hs (w := refuse s) rfl fun hb => hreader hb (some ⟨0, true⟩))
  · obtain ⟨hinputs, _⟩ := sameEnvironment_exec hw
    rw [e, step_op (hp'.trans hp) (exec_withPorts s.resp (b :: rest) hw)]
    refine congrArg _ (finishEdge_of_sameReaderPhase hs hinputs fun hb => ?_)
    obtain ⟨r, rfl⟩ := exec_busy hb hw
    exact hreader hb (some r)

end

/-- READER does not look at the ADC when the cycle has timed out or no conversion is pending (R162). -/
theorem readerPhase_ignores_adc {s : State} (h : s.adcPending = false ∨ s.timeoutFlag = true) (a b : PortSample) :
    readerPhase b s = readerPhase a s := by
  rcases h with hp | ht
  · simp [readerPhase, hp]
  · rw [readerPhase_eq_terminate b ht, readerPhase_eq_terminate a ht]

/-- READER looks at `adc_data` only when `adc_done` is 1 (R162). -/
theorem readerPhase_ignores_data {a b : PortSample} (ha : a.adcDone = false) (hb : b.adcDone = false) (s : State) :
    readerPhase b s = readerPhase a s := by
  simp [readerPhase, ha, hb]

/-- Settles O35: the samples differ on ports the HOST does not read, and READER, which runs at busy edges only, cannot tell them
apart. -/
theorem ignoredInputs : Obligations.IgnoredInputs := by
  intro s inp rest e d v hs
  refine ⟨?eos, fun hquiet => ?adc, fun hdone => ?data⟩
  case eos => exact step_of_sameHostPorts hs ⟨rfl, rfl, rfl⟩ fun _ _ => rfl
  case adc =>
    refine step_of_sameHostPorts hs ⟨rfl, rfl, rfl⟩ fun hb r => readerPhase_ignores_adc ?_ _ _
    rcases hquiet with hp | hrest | ht
    · exact .inl hp
    · simp [hb] at hrest
    · exact .inr ht
  case data =>
    exact step_of_sameHostPorts hs ⟨rfl, rfl, rfl⟩ fun _ _ =>
      readerPhase_ignores_data (a := inp) (b := { inp with adcData := v }) hdone hdone _

end Sys2Proof.Machine
end

section
/-! PROOFS. The host interface (R180 to R207): which words are ILLEGAL, the canonical words field by field, the answer of an
edge, the two outcomes of START; then the statements of this family, the reads, the writes and the edges that run no instruction. -/

namespace Sys2Proof

open Machine Laws.OpcodeRow

/-! ## Which words are ILLEGAL (R206) -/

theorem inBufferWindow_iff (a : Addr) : inBufferWindow a = true ↔ 0x200 ≤ a.toNat := by
  rw [inBufferWindow, ← BitVec.testBit_toNat]
  exact ⟨fun h => Nat.ge_two_pow_of_testBit h, fun h => by
    rw [Nat.testBit_eq_decide_div_mod_eq]
    have hlt := a.isLt
    exact decide_eq_true (by omega)⟩

theorem bufferIndex_toNat {a : Addr} (h : inBufferWindow a = true) : 0x200 + (bufferIndex a).toNat = a.toNat := by
  have hge := (inBufferWindow_iff a).1 h
  have hlt := a.isLt
  simp only [bufferIndex, BitVec.extractLsb'_toNat, Nat.shiftRight_zero]
  omega

/-- A register read decodes at the fifteen addresses of R64. -/
theorem decodeRead_of_le {a : Addr} (h : a.toNat ≤ 14) : ∃ i, decodeRead a = .ok i := by
  unfold decodeRead
  generalize a.toNat = k at h
  interval_cases k <;> exact ⟨_, rfl⟩

/-- The words that decode: `RSV` is 0 and `ADDR` is a register of R64 or a buffer entry (R78). -/
theorem decodeWord_ok_iff (n : Nat) (c : CmdWord) :
    (∃ i, decodeWord n c = .ok i) ↔
      CmdWord.rsv c = 0 ∧
        ((CmdWord.addr c).toNat ≤ 14 ∨ 0x200 ≤ (CmdWord.addr c).toNat ∧ (CmdWord.addr c).toNat < 0x200 + n) := by
  constructor
  · rintro ⟨i, h⟩
    have haddr (k : BufIndex) (hk : k.toNat < n) :
        0x200 ≤ (bufferAddr k).toNat ∧ (bufferAddr k).toNat < 0x200 + n := by
      have hidx := bufferIndex_toNat (inBufferWindow_bufferAddr k)
      rw [bufferIndex_bufferAddr] at hidx
      omega
    cases decodesTo_of_decodeWord h with
    | readBuf k d hk => simpa using .inr (haddr k hk)
    | writeBuf k d hk => simpa [writeWord] using .inr (haddr k hk)
    | readReg a d h => simpa using .inl (decodeRead_ok h).1
    | writeReg a d h => simpa [writeWord] using .inl (decodeWrite_ok h).1
  · rintro ⟨hrsv, haddr⟩
    rw [← ofFields_eta c, hrsv]
    generalize CmdWord.isWrite c = w, CmdWord.addr c = a, CmdWord.data c = d at haddr ⊢
    rcases haddr with hreg | ⟨hge, hlt⟩
    · rw [decodeWord_register hreg]
      cases w
      · exact decodeRead_of_le hreg
      · exact decodeWrite_of_le hreg d
    · have hwin := (inBufferWindow_iff a).2 hge
      have hidx := bufferIndex_toNat hwin
      rw [← bufferAddr_bufferIndex hwin, decodeWord_bufferAddr (by omega)]
      cases w <;> exact ⟨_, rfl⟩

theorem exists_error_iff {ε α : Type} (x : Except ε α) : (∃ e, x = .error e) ↔ ¬ ∃ a, x = .ok a := by
  cases x <;> simp

/-- The ILLEGAL words: `RSV` is not 0, or `ADDR` lies between the two windows or above the last buffer entry (R206). -/
theorem decodeWord_error_iff (n : Nat) (c : CmdWord) :
    (∃ e, decodeWord n c = .error e) ↔
      CmdWord.rsv c ≠ 0 ∨ (0x00F ≤ (CmdWord.addr c).toNat ∧ (CmdWord.addr c).toNat < 0x200) ∨
        0x200 + n ≤ (CmdWord.addr c).toNat := by
  rw [exists_error_iff, decodeWord_ok_iff, not_and_or]
  refine or_congr Iff.rfl ?_
  omega

/-! ## The canonical words (R80) -/

/-- The `DATA` of a write is or-ed into bits 15:0 of its word (R80). -/
theorem writeWord_eq_or (a : Addr) (d : Word) : writeWord a d = writeWord a 0 ||| d.setWidth 32 := by
  apply BitVec.eq_of_getLsbD_eq
  intro k hk
  rw [BitVec.getLsbD_or, BitVec.getLsbD_setWidth, writeWord, writeWord, ofFields_getLsbD, ofFields_getLsbD]
  by_cases h : k < 16
  · simp [h, hk]
  · simp [h, BitVec.getLsbD_of_ge d k (by omega)]

/-- The index of a buffer access is or-ed into bits 24:16 of its word (R74, R80). -/
theorem ofFields_bufferAddr_eq_or (w : Bool) (i : BufIndex) :
    CmdWord.ofFields w 0 (bufferAddr i) 0 = CmdWord.ofFields w 0 0x200 0 ||| (i.setWidth 32 <<< 16) := by
  apply BitVec.eq_of_getLsbD_eq
  intro k hk
  rw [BitVec.getLsbD_or, ofFields_getLsbD, ofFields_getLsbD, bufferAddr, BitVec.getLsbD_append, BitVec.getLsbD_shiftLeft,
    BitVec.getLsbD_setWidth]
  interval_cases k <;> simp

/-- A CTRL write is START or WR_CTRL_NOP by `DATA[0]`, whatever the other `DATA` bits are (R62, R202, R203). -/
theorem decodeWord_ctrl {c : CmdWord} {b : Bool}
    (h : c &&& 0xFFFF0001 = writeWord 0x001 (if b then 1 else 0) &&& 0xFFFF0001) (n : Nat) :
    decodeWord n c = .ok (if b then .start else .wrCtrlNop) := by
  have hbit : (CmdWord.data c).getLsbD 0 = b := by
    rw [data_getLsbD_zero, getLsbD_eq_of_and_eq h (k := 0) rfl]
    cases b <;> rfl
  rw [eq_register_of_and_eq h (by decide), decodeWord_register (by decide), if_pos rfl, decodeWrite_ctrl, hbit]

end Sys2Proof

namespace Sys2Proof.Machine

/-! ## Edges that run no instruction (R206, R207) -/

/-- READER and TICK do not drive the response ports (R57). -/
theorem finishEdge_resp (s w : State) : (finishEdge s w).resp = w.resp := by
  cases hb : busy s.state with
  | true =>
    rw [finishEdge_busy hb, tickPhase_frame, readerPhase_frame]
    rfl
  | false =>
    rw [finishEdge_resting hb]
    rfl

/-- Settles O3: no transaction is presented, and the rest of the edge leaves the answer as HOST_NONE does, empty. -/
theorem noTransactionEdge : Obligations.NoTransactionEdge := by
  intro s hrst hvalid
  have hnone : (finishEdge s (hostNone s)).resp = none := finishEdge_resp s _
  refine ⟨?step, ?rdata, ?err⟩
  case step =>
    have hp : presented s = .hostNone := by simp [presented, hrst, hvalid]
    simp [step, hp, hostNone]
  case rdata => exact congrArg (fun r => (r.map Response.rdata).getD 0) hnone
  case err => exact congrArg (fun r => (r.map Response.err).getD false) hnone

/-- Settles O4: the decoder rejects exactly the words of R206, and a rejected word is refused whatever made it ILLEGAL. -/
theorem illegalWordsRefused : Obligations.IllegalWordsRefused := by
  intro s hrst hvalid
  refine ⟨?illegal, fun e he => ?refused⟩
  case illegal =>
    rw [decodeWord_error_iff, commandWord, rsv_ofFields, addr_ofFields]
  case refused =>
    have hp : presented s = .illegal e := by simp [presented, hrst, hvalid, he]
    simp [step, hp, hostIllegal, refuse, respond]

/-! ## Reads (R182 to R197) -/

/-- Settles O7: each of the four is the read of a register with that content in R64. -/
theorem readConstantRegisters : Obligations.ReadConstantRegisters :=
  ⟨rfl, rfl, rfl, rfl, rfl, rfl, fun _ => ⟨rfl, rfl, rfl, rfl⟩⟩

/-- Settles O9: each of the four is the read of a register with that content in R64. -/
theorem readConfigurationRegisters : Obligations.ReadConfigurationRegisters :=
  ⟨rfl, rfl, rfl, rfl, fun _ => rfl, fun _ => ⟨rfl, rfl, rfl, rfl⟩⟩

/-- Settles O10: each of the four is the read of a register with that content in R64. -/
theorem readCounters : Obligations.ReadCounters :=
  ⟨rfl, rfl, rfl, rfl, fun _ => ⟨rfl, rfl, rfl, rfl⟩⟩

/-- The lowest field of `STATUS` (R66). -/
theorem statusWord_state (s : State) : (statusWord s).extractLsb' 0 3 = stateCode s.state := by
  apply BitVec.eq_of_getLsbD_eq
  intro k hk
  simp only [statusWord, BitVec.getLsbD_extractLsb', BitVec.getLsbD_append]
  simp [hk]

/-- The highest field of `STATUS` (R66). -/
theorem statusWord_result (s : State) : (statusWord s).extractLsb' 13 3 = resultCode s := by
  apply BitVec.eq_of_getLsbD_eq
  intro k hk
  simp only [statusWord, BitVec.getLsbD_extractLsb', BitVec.getLsbD_append]
  interval_cases k <;> simp

/-- The single bits of `STATUS` (R66), bit 3 being the first. -/
theorem statusWord_bit (s : State) (k : Fin 10) :
    (statusWord s).getLsbD (3 + k) =
      [busy s.state, s.sampleReadyFlag, phaseBit s.clockPhase, s.clkOut, s.trigOut, s.overrunFlag, s.timeoutFlag,
        s.capErrFlag, s.cfgErrFlag, s.adcPending][k] := by
  simp only [statusWord, BitVec.getLsbD_append]
  fin_cases k <;> simp

/-- Settles O8: RD_STATUS answers `statusWord`, whose fields are told apart by their place in the word. -/
theorem readStatusFields : Obligations.ReadStatusFields := by
  refine ⟨rfl, by decide, fun s => ⟨statusWord s, rfl, ?_, ?_, statusWord_bit s 1, ?_, statusWord_bit s 3,
    statusWord_bit s 4, statusWord_bit s 5, statusWord_bit s 6, statusWord_bit s 7, statusWord_bit s 8, statusWord_bit s 9,
    statusWord_result s⟩⟩
  · rw [statusWord_state]
    cases s.state <;> rfl
  · exact (statusWord_bit s 0).trans (Bool.eq_iff_iff.2 ((busy_iff s.state).trans decide_eq_true_iff.symm))
  · exact (statusWord_bit s 2).trans (by cases s.clockPhase <;> rfl)

theorem Memory.mem_of_read {m : Memory} {i : Nat} {v : Sample} (h : m.read i = some v) : (i, v) ∈ m := by
  induction m with
  | nil => simp at h
  | cons x m ih =>
    obtain ⟨a, w⟩ := x
    rw [Memory.read_cons] at h
    split at h
    · next ha =>
      cases h
      exact ha ▸ List.mem_cons_self
    · exact List.mem_cons_of_mem _ (ih h)

/-- An entry of the buffer fits `SAMPLE_BITS` bits, stored or free (R20, R74; log 7). -/
theorem Inv.bufEntry_lt {s : State} (h : Inv s) (i : Nat) : (bufEntry s i).toNat < 2 ^ s.params.sampleBits := by
  cases hr : s.buf.read i with
  | none => simpa [bufEntry, hr] using truncateSample_lt _ _
  | some v =>
    obtain ⟨_, hv⟩ := h.buf_entries _ (Memory.mem_of_read hr)
    simpa [bufEntry, hr] using hv

/-- Settles O12: a good state's stored entries are `SAMPLE_BITS` wide, and the free value of any other entry is truncated. -/
theorem readBufferWindow : Obligations.ReadBufferWindow := by
  intro i
  refine ⟨ofFields_bufferAddr_eq_or false i, fun n hn => ⟨.bufferIndex, ?_⟩,
    fun s hi => ⟨execRdBuf_of_lt hi, fun h => h.bufEntry_lt i.toNat⟩⟩
  rw [encodeWord, readWord, decodeWord_ofFields, if_pos (inBufferWindow_bufferAddr i), bufferIndex_bufferAddr, if_pos hn]

/-! ## Writes (R198 to R205) -/

/-- Settles O14: each of the four is a write of the host, carried out at rest and refused while busy. -/
theorem configurationWrites : Obligations.ConfigurationWrites := by
  intro v
  refine ⟨writeWord_eq_or 0x003 v, writeWord_eq_or 0x004 v, writeWord_eq_or 0x005 v, writeWord_eq_or 0x006 v,
    fun s => ⟨fun hb => ?rest, fun hb => ?busy⟩⟩
  case rest =>
    exact ⟨congrArg _ (hostWrite_idle _ hb), congrArg _ (hostWrite_idle _ hb), congrArg _ (hostWrite_idle _ hb),
      congrArg _ (hostWrite_idle _ hb)⟩
  case busy =>
    exact ⟨congrArg _ (hostWrite_busy _ hb), congrArg _ (hostWrite_busy _ hb), congrArg _ (hostWrite_busy _ hb),
      congrArg _ (hostWrite_busy _ hb)⟩

theorem exec_start_of_invalid {s : State} (hb : busy s.state = false) (hc : configInvalid s = true) :
    exec .start s = .next (respond 0 false { clearErrors s with cfgErrFlag := true, state := .idle }) := by
  rcases startCmd_cases s with ⟨_, e⟩ | ⟨hc', _⟩
  · rw [← e]
    exact congrArg _ (hostWrite_idle startCmd hb)
  · simp [hc] at hc'

theorem exec_start_of_valid {s : State} (hb : busy s.state = false) (hc : configInvalid s = false) :
    exec .start s = .next (respond 0 false (beginCycle (clearErrors s))) := by
  rcases startCmd_cases s with ⟨hc', _⟩ | ⟨_, e⟩
  · simp [hc] at hc'
  · rw [← e]
    exact congrArg _ (hostWrite_idle startCmd hb)

/-- Settles O15: the premises of the last two clauses say whether `ConfigInvalid` holds, which decides what `StartCmd` does. -/
theorem startCommand : Obligations.StartCommand := by
  refine ⟨rfl, fun n _ h => decodeWord_ctrl (b := true) h n, fun s => ⟨fun hb => ?busy, fun hb hbad => ?invalid,
    fun hb htrig hhmin hhmax hlmin hlmax => ?valid⟩⟩
  case busy => exact congrArg _ (hostWrite_busy startCmd hb)
  case invalid =>
    have hc : configInvalid s = true := by
      by_contra hc
      obtain ⟨htrig, ⟨hhmin, hhmax⟩, hlmin, hlmax⟩ :=
        (configInvalid_eq_false_iff s).1 (Bool.eq_false_of_not_eq_true hc)
      omega
    exact exec_start_of_invalid hb hc
  case valid =>
    have hc := (configInvalid_eq_false_iff s).2 ⟨htrig, ⟨hhmin, hhmax⟩, hlmin, hlmax⟩
    exact exec_start_of_valid hb hc

/-- Settles O17: WR_CTRL_NOP is a write of the host that writes nothing. -/
theorem controlWriteOfZero : Obligations.ControlWriteOfZero :=
  ⟨rfl, fun n _ h => decodeWord_ctrl (b := false) h n,
    fun _ => ⟨fun hb => congrArg _ (hostWrite_idle id hb), fun hb => congrArg _ (hostWrite_busy id hb)⟩⟩

/-- Settles O18, by the ten rows of the list: each is a write word at its address, and each is refused. -/
theorem readOnlyWritesRefused : Obligations.ReadOnlyWritesRefused := by
  intro d i a h
  simp only [List.mem_cons, Prod.mk.injEq, List.not_mem_nil, or_false] at h
  rcases h with ⟨rfl, rfl⟩ | ⟨rfl, rfl⟩ | ⟨rfl, rfl⟩ | ⟨rfl, rfl⟩ | ⟨rfl, rfl⟩ | ⟨rfl, rfl⟩ | ⟨rfl, rfl⟩ | ⟨rfl, rfl⟩ |
    ⟨rfl, rfl⟩ | ⟨rfl, rfl⟩
  all_goals exact ⟨writeWord_eq_or _ d, fun _ => rfl⟩

/-- Settles O19: the word is that of a write at the entry's address, and the write is refused. -/
theorem bufferWritesRefused : Obligations.BufferWritesRefused := by
  intro i d
  refine ⟨?word, fun _ => rfl⟩
  calc encodeWord (.wrBuf i d)
    _ = writeWord (bufferAddr i) 0 ||| d.setWidth 32 := writeWord_eq_or _ d
    _ = 0x82000000 ||| (i.setWidth 32 <<< 16) ||| d.setWidth 32 :=
      congrArg (· ||| d.setWidth 32) (ofFields_bufferAddr_eq_or true i)

end Sys2Proof.Machine
end

section
/-! PROOFS. Errors and ownership (R220, R225, R234, R236): a refused transaction and the traffic at a busy edge reach the answer
only; the four error flags read as one function of the error (`errorFlag`), with one lemma per agent that says which error it can
raise and when.  Then the statements of this family. -/

namespace Sys2Proof.Machine

/-! ## Refusals (R225) -/

/-- The rest of an edge carries the answer and the placed inputs along (R57, R90). -/
theorem finishEdge_withPorts (r : Option Response) (l : List PortSample) (s w : State) :
    finishEdge s (withPorts r l w) = withPorts r l.tail (finishEdge s w) := by
  cases hb : busy s.state with
  | true =>
    rw [finishEdge_busy hb, finishEdge_busy hb, readerPhase_withPorts, tickPhase_withPorts]
    rfl
  | false =>
    rw [finishEdge_resting hb, finishEdge_resting hb]
    rfl

/-- What the HOST answers at an edge reaches nothing but the answer after it. -/
theorem finishEdge_answer (s : State) (r : Option Response) :
    finishEdge s { s with resp := r } = { finishEdge s s with resp := r } := by
  obtain ⟨hinputs, _⟩ := finishEdge_environment (s := s) (w := s) ⟨rfl, rfl, rfl⟩
  calc finishEdge s { s with resp := r }
    _ = withPorts r s.inputs.tail (finishEdge s s) := finishEdge_withPorts r s.inputs s s
    _ = { finishEdge s s with resp := r } := by rw [← hinputs]; rfl

/-- A write of the host is refused or answered without error, as the block is busy or not (R180). -/
theorem hostWrite_refused_or_accepted (f : State → State) (s : State) :
    hostWrite f s = refuse s ∨ ∃ d, (hostWrite f s).resp = some ⟨d, false⟩ := by
  cases hb : busy s.state with
  | true => exact .inl (hostWrite_busy f hb)
  | false => exact .inr ⟨0, by rw [hostWrite_idle f hb]; rfl⟩

/-- The HOST's turn refuses the transaction and does nothing else, or answers without error (R180, R225). -/
theorem exec_refused_or_accepted {i : Instr} {s w : State} (hw : exec i s = .next w) :
    w = refuse s ∨ ∃ d, w.resp = some ⟨d, false⟩ := by
  cases i
  case rdBuf k =>
    by_cases hk : k.toNat < s.params.pixelCount
    · obtain rfl := Host.Outcome.next.inj ((execRdBuf_of_lt hk).symm.trans hw)
      exact .inr ⟨_, rfl⟩
    · obtain rfl := Host.Outcome.next.inj ((execRdBuf_of_not_lt hk).symm.trans hw)
      exact .inl rfl
  all_goals obtain rfl := Host.Outcome.next.inj hw
  case wrHighTicks | wrLowTicks | wrTrigHighClocks | wrCycleLimitClocks | start | wrCtrlNop =>
    exact hostWrite_refused_or_accepted _ s
  case wrRoId | wrRoStatus | wrRoClockCount | wrRoReadThresholdLo | wrRoReadThresholdHi | wrRoCursor | wrRoTickCount |
      wrRoTickCompare | wrRoPixelCount | wrRoPipelineLatency | wrBuf =>
    exact .inl rfl
  all_goals exact .inr ⟨_, rfl⟩

/-- An edge without reset that answers `err = 1` is the one at which the HOST's turn is a refusal (R206, R225). -/
theorem step_refused {s t : State} {d : Word} (hr : presented s ≠ .reset) (hst : step s = .next t)
    (herr : t.resp = some ⟨d, true⟩) : t = finishEdge s (refuse s) := by
  rcases step_cases s with ⟨hp, _⟩ | ⟨_, e⟩ | ⟨_, _, e⟩ | ⟨i, w, _, hw, e⟩
  · exact absurd hp hr
  all_goals
    rw [e, Host.Outcome.next.injEq] at hst
    subst hst
  · simp [finishEdge_resp] at herr
  · rfl
  · rcases exec_refused_or_accepted hw with rfl | ⟨_, hok⟩
    · rfl
    · simp [finishEdge_resp, hok] at herr

/-- Settles O20: the HOST's turn of the edge was a refusal, which is an answer, and the rest of the edge does not read it. -/
theorem refusedTransactionLeavesNoTrace : Obligations.RefusedTransactionLeavesNoTrace := by
  intro s t d hrst hst herr
  obtain rfl := step_refused (presented_ne_reset hrst) hst herr
  have hresp : (finishEdge s (refuse s)).resp = some ⟨0, true⟩ := finishEdge_resp s _
  refine ⟨?data, ?state⟩
  case data =>
    rw [hresp] at herr
    cases herr
    rfl
  case state =>
    rw [hresp, finishEdge_answer s none]
    exact finishEdge_answer s (some ⟨0, true⟩)

/-! ## Host traffic at a busy edge (R236, R55) -/

/-- A busy edge without reset ends in one state, but for the answer, whatever the HOST does. -/
theorem step_busy_answer {s t : State} (hb : busy s.state = true) (hr : presented s ≠ .reset) (hst : step s = .next t) :
    t = { finishEdge s s with resp := t.resp } := by
  obtain ⟨r, rfl⟩ := step_busy hb hr hst
  rw [← finishEdge_busy hb, finishEdge_answer]

section
variable {s : State} {a b : PortSample} {rest : List PortSample} (hs : s.inputs = a :: rest)
include hs

/-- The rest of an edge reads `adc_done` and `adc_data` of the sample and no other port (R154, R162). -/
theorem finishEdge_of_sameAdcPorts (hdone : b.adcDone = a.adcDone) (hdata : b.adcData = a.adcData) :
    finishEdge { s with inputs := b :: rest } { s with inputs := b :: rest } = finishEdge s s := by
  have hreader : readerPhase b s = readerPhase a s := by simp only [readerPhase, hdone, hdata]
  exact finishEdge_of_sameReaderPhase hs (w := s) rfl fun _ => hreader

theorem presented_reset_of_sameRst (hrst : b.rst = a.rst) :
    presented { s with inputs := b :: rest } = .reset ↔ presented s = .reset := by
  rw [presented_eq_reset_iff, presented_eq_reset_iff, nextInput_of_inputs hs,
    nextInput_of_inputs (s := { s with inputs := b :: rest }) rfl, hrst]

/-- Two samples that agree on `rst` and the ADC's ports give, at a busy edge, states that differ in the answer only. -/
theorem step_busy_of_sameAdcPorts (hb : busy s.state = true) (hrst : b.rst = a.rst) (hdone : b.adcDone = a.adcDone)
    (hdata : b.adcData = a.adcData) :
    ∃ t t', step s = .next t ∧ step { s with inputs := b :: rest } = .next t' ∧ { t' with resp := t.resp } = t := by
  obtain ⟨t, hst⟩ := step_next s
  obtain ⟨t', hst'⟩ := step_next { s with inputs := b :: rest }
  refine ⟨t, t', hst, hst', ?_⟩
  have hreset := presented_reset_of_sameRst hs hrst
  by_cases hr : presented s = .reset
  · rw [step_reset hr hst, step_reset (hreset.2 hr) hst']
    simp [resetEdge, hs]
  · have ht' := step_busy_answer (s := { s with inputs := b :: rest }) hb (fun h => hr (hreset.1 h)) hst'
    rw [finishEdge_of_sameAdcPorts hs hdone hdata] at ht'
    rw [ht']
    exact (step_busy_answer hb hr hst).symm

end

/-- Settles O34: the traffic is on the host's ports, which leaves `rst` and the ADC's ports of the sample alone. -/
theorem hostTrafficInvisibleWhileBusy : Obligations.HostTrafficInvisibleWhileBusy :=
  fun _ _ _ _ _ _ _ _ hb hs => step_busy_of_sameAdcPorts hs hb rfl rfl rfl

/-! ## The error flags and what each agent raises (R220, R234) -/

/-- The sticky flag of an error (R220). -/
def errorFlag (s : State) : ErrorKind → Bool
  | .configurationError => s.cfgErrFlag
  | .timingOverrunError => s.overrunFlag
  | .acquisitionTimeout => s.timeoutFlag
  | .capacityExceeded => s.capErrFlag

/-- `raise` sets the flag of its error and no other (R220). -/
theorem errorFlag_raiseError (e k : ErrorKind) (s : State) :
    errorFlag (raiseError e s) k = true ↔ k = e ∨ errorFlag s k = true := by
  cases e <;> cases k <;> simp [errorFlag, raiseError]

/-- RD_PUSH raises CapacityExceeded in a full buffer and no other error (R141, R156). -/
theorem errorFlag_rdPush (v : Sample) (s : State) :
    errorFlag (rdPush v s) = errorFlag s ∨
    (s.cursor.toNat = s.params.pixelCount ∧ errorFlag (rdPush v s) = errorFlag (raiseError .capacityExceeded s)) := by
  have hend : errorFlag (rdPush v s) = errorFlag (push v { s with adcPending := false, adcStart := false }) := by
    rcases rdPush_cases v s with ⟨_, e⟩ | ⟨_, e⟩
    · rw [e]
      rfl
    · rw [e]
  rw [hend]
  rcases push_cases v { s with adcPending := false, adcStart := false } with ⟨hfull, e⟩ | ⟨_, e⟩ <;> rw [e]
  · exact .inr ⟨hfull, rfl⟩
  · exact .inl rfl

/-- READER raises nothing, or CapacityExceeded by an RD_PUSH into a full buffer (R154, R220). -/
theorem errorFlag_readerPhase (inp : PortSample) (s : State) :
    errorFlag (readerPhase inp s) = errorFlag s ∨
    (s.adcPending = true ∧ inp.adcDone = true ∧ s.cursor.toNat = s.params.pixelCount ∧
      errorFlag (readerPhase inp s) = errorFlag (raiseError .capacityExceeded s)) := by
  rcases readerPhase_cases inp s with ⟨_, e⟩ | ⟨_, hp, hd, e⟩ | ⟨_, _, _, e⟩ | ⟨_, _, e⟩ <;> rw [e]
  case inr.inl =>
    rcases errorFlag_rdPush inp.adcData s with hkeep | ⟨hfull, hraise⟩
    · exact .inl hkeep
    · exact .inr ⟨hp, hd, hfull, hraise⟩
  all_goals exact .inl rfl

/-- FIRE_FALL raises nothing, or TimingOverrunError at a ready event that finds the flag set, or AcquisitionTimeout at the limit
(R112, R130, R220). -/
theorem errorFlag_fireFall (s : State) :
    errorFlag (fireFall s) = errorFlag s ∨
    (s.sampleReadyFlag = true ∧ s.readThresholdClock.toNat ≤ (fireFall s).clockCount.toNat ∧
      errorFlag (fireFall s) = errorFlag (raiseError .timingOverrunError s)) ∨
    (s.clockCount = s.cycleLimitClocks ∧ (fireFall s).clockCount = s.cycleLimitClocks ∧
      errorFlag (fireFall s) = errorFlag (raiseError .acquisitionTimeout s)) := by
  rcases fireFall_cases s with ⟨hlimit, e⟩ | ⟨_, _, e⟩ | ⟨_, hreached, e⟩ <;> rw [e]
  · exact .inr (.inr ⟨hlimit, hlimit, rfl⟩)
  · exact .inl rfl
  · cases hready : s.sampleReadyFlag with
    | true => exact .inr (.inl ⟨rfl, hreached, by rw [Bool.or_true]; rfl⟩)
    | false => exact .inl (by rw [Bool.or_false]; rfl)

/-- TICK raises an error by a FIRE_FALL only (R110, R112, R220). -/
theorem errorFlag_tickPhase (s : State) :
    errorFlag (tickPhase s) = errorFlag s ∨
    (s.clockPhase = .high ∧ s.tickCount.toNat + 1 = s.tickCompare.toNat ∧
      ((s.sampleReadyFlag = true ∧ s.readThresholdClock.toNat ≤ (tickPhase s).clockCount.toNat ∧
          errorFlag (tickPhase s) = errorFlag (raiseError .timingOverrunError s)) ∨
        (s.clockCount = s.cycleLimitClocks ∧ (tickPhase s).clockCount = s.cycleLimitClocks ∧
          errorFlag (tickPhase s) = errorFlag (raiseError .acquisitionTimeout s)))) := by
  rcases tickPhase_cases s with ⟨_, e⟩ | ⟨_, _, e⟩ | ⟨_, _, _, e⟩ | ⟨_, hmatch, hhigh, e⟩ <;> rw [e]
  case inr.inr.inr =>
    rw [leavePriming_eq]
    exact (errorFlag_fireFall s).imp id fun hraise => ⟨hhigh, hmatch, hraise⟩
  case inr.inr.inl =>
    rw [leavePriming_eq]
    exact .inl rfl
  all_goals exact .inl rfl

/-- START clears the four flags and raises ConfigurationError if the configuration is invalid (R151, R234). -/
theorem errorFlag_startCmd (s : State) (k : ErrorKind) :
    errorFlag (startCmd s) k = true ↔ k = .configurationError ∧ configInvalid s = true := by
  rcases startCmd_cases s with ⟨hc, e⟩ | ⟨hc, e⟩ <;> rw [e, hc]
  · cases k <;> simp [errorFlag]
  · cases k <;> simp [errorFlag]

/-- The edge at which a resting block accepts a START ends with the flags of `StartCmd` (R202). -/
theorem errorFlag_step_start {s t : State} (hb : busy s.state = false) (hp : presented s = .op .start)
    (hst : step s = .next t) : errorFlag t = errorFlag (startCmd s) := by
  have hexec : exec .start s = .next (respond 0 false (startCmd s)) := congrArg _ (hostWrite_idle startCmd hb)
  rw [step_op hp hexec, finishEdge_resting hb, Host.Outcome.next.injEq] at hst
  rw [← hst]
  rfl

/-- No other edge of a resting block touches a flag but a reset (R93, R234). -/
theorem errorFlag_step_resting {s t : State} (hb : busy s.state = false) (hr : presented s ≠ .reset)
    (hp : presented s ≠ .op .start) (hst : step s = .next t) : errorFlag t = errorFlag s := by
  rw [restingBlockKeepsState s t hb hr hp hst]
  rfl

/-! ## Sticky flags (R234) -/

/-- Every error recorded in `s` is recorded in `t`. -/
def KeepsErrors (s t : State) : Prop := ∀ k, errorFlag s k = true → errorFlag t k = true

theorem KeepsErrors.trans {s t u : State} (hst : KeepsErrors s t) (htu : KeepsErrors t u) : KeepsErrors s u :=
  fun k hk => htu k (hst k hk)

theorem keepsErrors_of_eq {s t : State} (h : errorFlag t = errorFlag s) : KeepsErrors s t := fun _ hk => h ▸ hk

theorem keepsErrors_of_raise {s t : State} {e : ErrorKind} (h : errorFlag t = errorFlag (raiseError e s)) :
    KeepsErrors s t :=
  fun k hk => h ▸ (errorFlag_raiseError e k s).2 (.inr hk)

theorem keepsErrors_readerPhase (inp : PortSample) (s : State) : KeepsErrors s (readerPhase inp s) := by
  rcases errorFlag_readerPhase inp s with hkeep | ⟨_, _, _, hraise⟩
  · exact keepsErrors_of_eq hkeep
  · exact keepsErrors_of_raise hraise

theorem keepsErrors_tickPhase (s : State) : KeepsErrors s (tickPhase s) := by
  rcases errorFlag_tickPhase s with hkeep | ⟨_, _, ⟨_, _, hraise⟩ | ⟨_, _, hraise⟩⟩
  · exact keepsErrors_of_eq hkeep
  · exact keepsErrors_of_raise hraise
  · exact keepsErrors_of_raise hraise

/-- An edge that is no reset and at which no START is accepted clears no flag. -/
theorem keepsErrors_step {s t : State} (hr : presented s ≠ .reset)
    (hstart : presented s ≠ .op .start ∨ busy s.state = true) (hst : step s = .next t) : KeepsErrors s t := by
  cases hb : busy s.state with
  | true =>
    obtain ⟨r, rfl⟩ := step_busy hb hr hst
    exact (keepsErrors_readerPhase (nextInput s) { s with resp := r }).trans (keepsErrors_tickPhase _)
  | false =>
    have hp : presented s ≠ .op .start := hstart.resolve_right (by simp [hb])
    exact keepsErrors_of_eq (errorFlag_step_resting hb hr hp hst)

/-- Settles O37: READER and TICK only raise, and a resting block that accepts no START leaves the flags alone. -/
theorem errorFlagsSticky : Obligations.ErrorFlagsSticky := by
  intro s t hr hstart hst
  have hkeep := keepsErrors_step hr hstart hst
  exact ⟨hkeep .timingOverrunError, hkeep .acquisitionTimeout, hkeep .capacityExceeded, hkeep .configurationError⟩

/-! ## Causes (R220) -/

/-- The error `k` is recorded between `s` and `t`. -/
def Raises (k : ErrorKind) (s t : State) : Prop := errorFlag s k = false ∧ errorFlag t k = true

/-- The column "cause" of R220, for an edge from `s` to `t`. -/
def ErrorCause (s t : State) : ErrorKind → Prop
  | .timingOverrunError =>
    busy s.state = true ∧ s.sampleReadyFlag = true ∧ s.clockPhase = .high ∧ s.tickCount.toNat + 1 = s.tickCompare.toNat ∧
      s.readThresholdClock.toNat ≤ t.clockCount.toNat
  | .acquisitionTimeout =>
    busy s.state = true ∧ s.clockPhase = .high ∧ s.tickCount.toNat + 1 = s.tickCompare.toNat ∧
      s.clockCount = s.cycleLimitClocks ∧ t.clockCount = s.cycleLimitClocks
  | .capacityExceeded =>
    busy s.state = true ∧ s.adcPending = true ∧ (nextInput s).adcDone = true ∧ s.cursor.toNat = s.params.pixelCount
  | .configurationError =>
    busy s.state = false ∧ presented s = .op .start ∧ configInvalid s = true ∧ t.state = .idle

/-- Of two operations in a row the first or the second records the error. -/
theorem Raises.split {k : ErrorKind} {s u : State} (h : Raises k s u) (t : State) : Raises k s t ∨ Raises k t u := by
  obtain ⟨hs, hu⟩ := h
  cases ht : errorFlag t k with
  | true => exact .inl ⟨hs, ht⟩
  | false => exact .inr ⟨ht, hu⟩

theorem not_raises_of_eq {k : ErrorKind} {s t : State} (h : errorFlag t = errorFlag s) : ¬ Raises k s t := by
  simp [Raises, h]

/-- What `raise` records is its own error. -/
theorem Raises.eq_of_raise {k e : ErrorKind} {s t : State} (h : Raises k s t)
    (ht : errorFlag t = errorFlag (raiseError e s)) : k = e := by
  obtain ⟨hclear, hset⟩ := h
  rw [ht, errorFlag_raiseError, hclear] at hset
  exact hset.resolve_right Bool.false_ne_true

theorem cause_of_readerPhase {k : ErrorKind} {inp : PortSample} {s : State} (h : Raises k s (readerPhase inp s)) :
    k = .capacityExceeded ∧ s.adcPending = true ∧ inp.adcDone = true ∧ s.cursor.toNat = s.params.pixelCount := by
  rcases errorFlag_readerPhase inp s with hkeep | ⟨hp, hd, hfull, hraise⟩
  · exact absurd h (not_raises_of_eq hkeep)
  · exact ⟨h.eq_of_raise hraise, hp, hd, hfull⟩

theorem cause_of_tickPhase {k : ErrorKind} {s : State} (h : Raises k s (tickPhase s)) :
    s.clockPhase = .high ∧ s.tickCount.toNat + 1 = s.tickCompare.toNat ∧
      ((k = .timingOverrunError ∧ s.sampleReadyFlag = true ∧
          s.readThresholdClock.toNat ≤ (tickPhase s).clockCount.toNat) ∨
        (k = .acquisitionTimeout ∧ s.clockCount = s.cycleLimitClocks ∧ (tickPhase s).clockCount = s.cycleLimitClocks)) := by
  rcases errorFlag_tickPhase s with hkeep | ⟨hhigh, hmatch, ⟨hready, hreached, hraise⟩ | ⟨hlimit, hcount, hraise⟩⟩
  · exact absurd h (not_raises_of_eq hkeep)
  · exact ⟨hhigh, hmatch, .inl ⟨h.eq_of_raise hraise, hready, hreached⟩⟩
  · exact ⟨hhigh, hmatch, .inr ⟨h.eq_of_raise hraise, hlimit, hcount⟩⟩

/-- READER never sets the flag, so a ready event that finds it set after READER's turn found it set before the edge (R155). -/
theorem sampleReadyFlag_of_readerPhase {inp : PortSample} {s : State} (h : (readerPhase inp s).sampleReadyFlag = true) :
    s.sampleReadyFlag = true := by
  by_contra hclear
  rw [readerPhase_keeps_sampleReadyFlag_clear inp (Bool.eq_false_of_not_eq_true hclear)] at h
  exact Bool.false_ne_true h

theorem cause_of_busy_edge {k : ErrorKind} {s t : State} (hb : busy s.state = true) (hr : presented s ≠ .reset)
    (hst : step s = .next t) (h : Raises k s t) : ErrorCause s t k := by
  obtain ⟨r, rfl⟩ := step_busy hb hr hst
  rcases Raises.split (s := { s with resp := r }) h (readerPhase (nextInput s) { s with resp := r }) with hreader | htick
  · obtain ⟨rfl, hp, hd, hfull⟩ := cause_of_readerPhase hreader
    exact ⟨hb, hp, hd, hfull⟩
  · obtain ⟨hphase, hcount, hcompare, hclocks⟩ := readerPhase_keeps_counters (nextInput s) { s with resp := r }
    obtain ⟨_, _, _, hlimit, hthreshold⟩ := sameConfiguration_readerPhase (nextInput s) { s with resp := r }
    have hcause := cause_of_tickPhase htick
    rw [hphase, hcount, hcompare, hclocks, hlimit, hthreshold] at hcause
    obtain ⟨hhigh, hmatch, ⟨rfl, hready, hreached⟩ | ⟨rfl, hatLimit, hkept⟩⟩ := hcause
    · exact ⟨hb, sampleReadyFlag_of_readerPhase (s := { s with resp := r }) hready, hhigh, hmatch, hreached⟩
    · exact ⟨hb, hhigh, hmatch, hatLimit, hkept⟩

theorem cause_of_resting_edge {k : ErrorKind} {s t : State} (hb : busy s.state = false) (hr : presented s ≠ .reset)
    (hst : step s = .next t) (h : Raises k s t) : ErrorCause s t k := by
  by_cases hp : presented s = .op .start
  · obtain ⟨_, hset⟩ := h
    rw [errorFlag_step_start hb hp hst, errorFlag_startCmd] at hset
    obtain ⟨rfl, hc⟩ := hset
    rcases step_start hb hp hst with ⟨hvalid, _⟩ | ⟨_, hidle⟩
    · simp [hc] at hvalid
    · exact ⟨hb, hp, hc, hidle⟩
  · exact absurd h (not_raises_of_eq (errorFlag_step_resting hb hr hp hst))

/-- Every edge that records an error has its cause; a reset edge records none. -/
theorem cause_of_step {k : ErrorKind} {s t : State} (hst : step s = .next t) (h : Raises k s t) : ErrorCause s t k := by
  by_cases hr : presented s = .reset
  · obtain ⟨_, hset⟩ := h
    rw [step_reset hr hst] at hset
    cases k <;> cases hset
  · cases hb : busy s.state with
    | true => exact cause_of_busy_edge hb hr hst h
    | false => exact cause_of_resting_edge hb hr hst h

/-- Settles O38: the four rows of R220. -/
theorem errorCauses : Obligations.ErrorCauses := fun _ _ hst =>
  ⟨fun hclear hset => cause_of_step (k := .timingOverrunError) hst ⟨hclear, hset⟩,
    fun hclear hset => cause_of_step (k := .acquisitionTimeout) hst ⟨hclear, hset⟩,
    fun hclear hset => cause_of_step (k := .capacityExceeded) hst ⟨hclear, hset⟩,
    fun hclear hset => cause_of_step (k := .configurationError) hst ⟨hclear, hset⟩⟩

end Sys2Proof.Machine
end

section
/-! PROOFS. The reset edge (R91, R260 to R263) in whole states, and the word `STATUS` of a block at rest without errors.  Then the
statements about reset. -/

namespace Sys2Proof.Machine

theorem step_of_rst {s : State} (hrst : (nextInput s).rst = true) : step s = .next (resetEdge s) := by
  simp [step, (presented_eq_reset_iff s).2 hrst]

/-- A resting block without errors, with its lines at rest and nothing ready or pending, shows `clk_out` and the code of `state` only
(R66). -/
theorem statusWord_of_clean_rest {s : State} {st : CycleState} (hs : s.state = st) (hb : busy st = false)
    (hclk : s.clkOut = true) (htrig : s.trigOut = false) (hphase : s.clockPhase = .low) (hready : s.sampleReadyFlag = false)
    (hpending : s.adcPending = false)
    (herr : s.capErrFlag = false ∧ s.cfgErrFlag = false ∧ s.timeoutFlag = false ∧ s.overrunFlag = false) :
    statusWord s = 0x0040 ||| (stateCode st).setWidth 16 := by
  obtain ⟨hcap, hcfg, hto, hover⟩ := herr
  rw [statusWord, resultCode, hs, hb, hclk, htrig, hphase, hready, hpending, hcap, hcfg, hto, hover]
  cases st <;> decide

theorem resetEdge_resp (s : State) : (resetEdge s).resp = if (nextInput s).hValid then some ⟨0, true⟩ else none := rfl

/-- Settles O5: the edge is `resetEdge`, which is `State.reset` in every element this speaks of but the answer. -/
theorem resetEdgeState : Obligations.ResetEdgeState := by
  intro s hrst
  refine ⟨resetEdge s, step_of_rst hrst, rfl, rfl, rfl, rfl, rfl, rfl, rfl, rfl, rfl, rfl, rfl, rfl, rfl, rfl, rfl, rfl, rfl, rfl,
    rfl, rfl, rfl, ?status, fun hvalid => ?answer⟩
  case status =>
    exact Eq.trans (statusWord_of_clean_rest (st := .idle) rfl rfl rfl rfl rfl rfl rfl ⟨rfl, rfl, rfl, rfl⟩) (by decide)
  case answer => rw [resetEdge_resp, if_pos hvalid]

/-- Settles O6: with no entry listed, each index reads as the free value of the new epoch; without a transaction there is no
answer, and the ports show 0. -/
theorem resetEdgeForgetsBuffer : Obligations.ResetEdgeForgetsBuffer := by
  intro s hrst
  refine ⟨resetEdge s, step_of_rst hrst, rfl, rfl, fun _ => rfl, rfl, rfl, rfl, rfl, rfl, fun hvalid => ?_⟩
  have hnone : (resetEdge s).resp = none := by simp [resetEdge_resp, hvalid]
  simp [hRdata, hErr, hnone]

end Sys2Proof.Machine
end

section
/-! PROOFS. The ADC handshake along a running cycle (R154 to R157): READER's turn and the ready events at the edges `m (Lo + Hi)`,
`m >= T + L`, say what `sampleReadyFlag`, `adcPending` and `cursor` are after an edge.  From this, that no window is lost if every
request is answered within its clock period (R266). -/

namespace Sys2Proof.Machine

/-! ## The input samples along a run (R98; log 2) -/

/-- An edge uses up one sample, so the others come one edge earlier. -/
theorem inputAt_of_step {s t : State} (hst : step s = .next t) (j : Nat) : inputAt t j = inputAt s (j + 1) := by
  obtain ⟨u, hu, hinputs, hedge, _⟩ := everyEdgeAnswers s
  rw [hst, Host.Outcome.next.injEq] at hu
  subst hu
  simp only [inputAt, hinputs, hedge, List.getElem?_tail, Nat.add_assoc, Nat.add_comm 1 j]

theorem inputAt_of_runsTo {k : Nat} {s t : State} (hrun : RunsTo k s t) (j : Nat) : inputAt t j = inputAt s (j + k) := by
  induction k generalizing s with
  | zero => rw [runsTo_zero.1 hrun, Nat.add_zero]
  | succ k ih =>
    obtain ⟨u, hst, hrun⟩ := runsTo_succ.1 hrun
    rw [ih hrun, inputAt_of_step hst, Nat.add_assoc]

theorem nextInput_of_runsTo {k : Nat} {s t : State} (hrun : RunsTo k s t) : nextInput t = inputAt s k := by
  rw [nextInput, inputAt_of_runsTo hrun, Nat.zero_add]

theorem busyBefore_succ {k : Nat} {s u : State} (hbusy : BusyBefore k s) (hrun : RunsTo k s u) (hb : busy u.state = true) :
    BusyBefore (k + 1) s := by
  intro j hj
  rcases Nat.lt_succ_iff_lt_or_eq.1 hj with hlt | rfl
  · exact hbusy j hlt
  · exact ⟨u, hrun, hb⟩

/-! ## The handshake at one edge (R130, R154 to R157) -/

@[simp] theorem push_adcPending (v : Sample) (s : State) : (push v s).adcPending = s.adcPending := by
  rw [push_frame]

@[simp] theorem rdPush_adcPending (v : Sample) (s : State) : (rdPush v s).adcPending = false := by
  rcases rdPush_cases v s with ⟨_, e⟩ | ⟨_, e⟩ <;> simp [e]

/-- READER keeps a request pending until its sample comes, and makes one when it finds a sample ready (R154). -/
theorem readerPhase_adcPending {inp : PortSample} {s : State} (hto : s.timeoutFlag = false) :
    (readerPhase inp s).adcPending = if s.adcPending then !inp.adcDone else s.sampleReadyFlag := by
  rcases readerPhase_cases inp s with ⟨ht, _⟩ | ⟨_, hp, hd, e⟩ | ⟨_, hp, hr, e⟩ | ⟨_, hwait, e⟩
  · simp [hto] at ht
  · simp [e, hp, hd]
  · simp [e, hp, hr]
  · rcases hwait with ⟨hp, hd⟩ | ⟨hp, hr⟩
    · simp [e, hp, hd]
    · simp [e, hp, hr]

/-- READER consumes the flag unless a conversion is pending (R154, R155). -/
theorem readerPhase_sampleReadyFlag {inp : PortSample} {s : State} (hto : s.timeoutFlag = false) :
    (readerPhase inp s).sampleReadyFlag = (s.sampleReadyFlag && s.adcPending) := by
  rcases readerPhase_cases inp s with ⟨ht, _⟩ | ⟨_, hp, _, e⟩ | ⟨_, hp, _, e⟩ | ⟨_, hwait, e⟩
  · simp [hto] at ht
  · simp [e, hp]
  · simp [e, hp]
  · rcases hwait with ⟨hp, _⟩ | ⟨hp, hr⟩
    · simp [e, hp]
    · simp [e, hp, hr]

/-- In a buffer with room READER steps the cursor by RD_PUSH, and leaves it alone otherwise (R141, R156). -/
theorem readerPhase_cursor {inp : PortSample} {s : State} (hp : s.params.Legal) (hroom : s.cursor.toNat < s.params.pixelCount)
    (hto : s.timeoutFlag = false) :
    (readerPhase inp s).cursor.toNat =
      if s.adcPending = true ∧ inp.adcDone = true then s.cursor.toNat + 1 else s.cursor.toNat := by
  rcases readerPhase_cases inp s with ⟨ht, _⟩ | ⟨_, hpend, hd, e⟩ | ⟨_, hpend, _, e⟩ | ⟨_, hwait, e⟩
  · simp [hto] at ht
  · rw [if_pos ⟨hpend, hd⟩, e, rdPush_cursor_of_room _ hp hroom, cursor_succ_toNat hp hroom]
  · simp [e, hpend]
  · rcases hwait with ⟨_, hd⟩ | ⟨hpend, _⟩
    · simp [e, hd]
    · simp [e, hpend]

/-- TICK raises the flag exactly when it counts a clock period and the count reaches the threshold (R112, R130). -/
theorem tickPhase_sampleReadyFlag_iff (s : State) :
    (tickPhase s).sampleReadyFlag = true ↔
      s.sampleReadyFlag = true ∨
      ((tickPhase s).clockCount ≠ s.clockCount ∧ s.readThresholdClock.toNat ≤ (tickPhase s).clockCount.toNat) := by
  rcases tickPhase_cases s with ⟨_, e⟩ | ⟨_, _, e⟩ | ⟨_, _, _, e⟩ | ⟨_, _, _, e⟩ <;> rw [e]
  · simp
  · simp
  · simp
  · rw [leavePriming_sampleReadyFlag, leavePriming_clockCount]
    rcases fireFall_cases s with ⟨_, e⟩ | ⟨_, hbelow, e⟩ | ⟨_, hreached, e⟩ <;> rw [e]
    · simp
    · have hnot := Nat.not_le_of_lt hbelow
      exact ⟨.inl, fun hset => hset.resolve_right fun ⟨_, hreached⟩ => hnot hreached⟩
    · exact ⟨fun _ => .inr ⟨by simp, hreached⟩, fun _ => rfl⟩

section
variable {s t : State} (hb : busy s.state = true) (hrst : (nextInput s).rst = false) (hto : s.timeoutFlag = false)
  (hst : step s = .next t)
include hb hrst hto hst

theorem step_adcPending : t.adcPending = if s.adcPending then !(nextInput s).adcDone else s.sampleReadyFlag := by
  obtain ⟨r, rfl⟩ := step_busy hb (presented_ne_reset hrst) hst
  rw [consumeInput_adcPending, tickPhase_frame]
  exact readerPhase_adcPending (s := { s with resp := r }) hto

theorem step_cursor (h : Inv s) :
    t.cursor.toNat =
      if s.adcPending = true ∧ (nextInput s).adcDone = true then s.cursor.toNat + 1 else s.cursor.toNat := by
  obtain ⟨r, rfl⟩ := step_busy hb (presented_ne_reset hrst) hst
  rw [consumeInput_cursor, tickPhase_frame]
  exact readerPhase_cursor (s := { s with resp := r }) h.params_legal (h.cursor_lt hb) hto

theorem step_sampleReadyFlag_iff :
    t.sampleReadyFlag = true ↔
      (s.sampleReadyFlag = true ∧ s.adcPending = true) ∨
      (t.clockCount ≠ s.clockCount ∧ s.readThresholdClock.toNat ≤ t.clockCount.toNat) := by
  obtain ⟨r, rfl⟩ := step_busy hb (presented_ne_reset hrst) hst
  obtain ⟨_, _, _, hclocks⟩ := readerPhase_keeps_counters (nextInput s) { s with resp := r }
  obtain ⟨_, _, _, _, hthreshold⟩ := sameConfiguration_readerPhase (nextInput s) { s with resp := r }
  rw [consumeInput_sampleReadyFlag, consumeInput_clockCount, tickPhase_sampleReadyFlag_iff,
    readerPhase_sampleReadyFlag (s := { s with resp := r }) hto, hclocks, hthreshold, Bool.and_eq_true]

end

/-! ## The ready events of a cycle (R132, R266) -/

/-- The threshold `T + L` of a cycle in clock periods (R19). -/
def thresholdClocks (s : State) : Nat := s.trigHighClocks.toNat + s.params.pipelineLatencyClocks

/-- The edge at which the cycle completes clock period `T + L + j` (R108, R132). -/
def readyEdge (s : State) (j : Nat) : Nat := (thresholdClocks s + j) * period s

/-- Edge `n` of the cycle completes a clock period with the threshold reached (R130, R132). -/
def ReadyEvent (s : State) (n : Nat) : Prop := ∃ j, n = readyEdge s j

theorem readyEdge_succ (s : State) (j : Nat) : readyEdge s (j + 1) = readyEdge s j + period s := Nat.succ_mul _ _

theorem readyEdge_le {s : State} {i j : Nat} (h : i ≤ j) : readyEdge s i ≤ readyEdge s j :=
  Nat.mul_le_mul_right _ (Nat.add_le_add_left h _)

/-- A multiple of `p` at or past `m p` but before `(m + 1) p` is `m p`. -/
theorem eq_of_mul_mem_period {p m m' : Nat} (hle : m * p ≤ m' * p) (hlt : m' * p < m * p + p) : m' = m := by
  have hupper : m' < m + 1 := Nat.lt_of_mul_lt_mul_right (a := p) (by rwa [Nat.succ_mul])
  have hlower : m ≤ m' := Nat.le_of_mul_le_mul_right hle (by omega)
  omega

theorem ne_mul_of_mem_period {p m n : Nat} (hlt : m * p < n) (hlt' : n < m * p + p) (m' : Nat) : n ≠ m' * p := by
  rintro rfl
  have hm := eq_of_mul_mem_period hlt.le hlt'
  simp [hm] at hlt

/-- A clock period past the threshold is named by any of its edges. -/
theorem eq_of_mem_periods {s : State} {i j n : Nat} (hi : readyEdge s i ≤ n) (hi' : n < readyEdge s i + period s)
    (hj : readyEdge s j ≤ n) (hj' : n < readyEdge s j + period s) : i = j := by
  rw [← readyEdge_succ] at hi' hj'
  by_contra hne
  rcases Nat.lt_or_gt_of_ne hne with hlt | hgt
  · exact absurd (readyEdge_le (s := s) (show i + 1 ≤ j from hlt)) (by omega)
  · exact absurd (readyEdge_le (s := s) (show j + 1 ≤ i from hgt)) (by omega)

/-- The ready events in the terms of `clockCount`, which is `k / (Lo + Hi)` at edge `k` (R108). -/
theorem readyEvent_succ_iff {s : State} (hp : 0 < period s) (k : Nat) :
    ReadyEvent s (k + 1) ↔ (k + 1) / period s ≠ k / period s ∧ thresholdClocks s ≤ (k + 1) / period s := by
  constructor
  · rintro ⟨j, hk⟩
    have hnext : (k + 1) / period s = k / period s + 1 := Nat.succ_div_of_dvd ⟨_, hk.trans (Nat.mul_comm ..)⟩
    have hcount : (k + 1) / period s = thresholdClocks s + j := by rw [hk, readyEdge, Nat.mul_div_cancel _ hp]
    omega
  · rintro ⟨hne, hle⟩
    have hdvd : period s ∣ k + 1 := by
      by_contra hnot
      exact hne (Nat.succ_div_of_not_dvd hnot)
    exact ⟨_, by rw [readyEdge, Nat.add_sub_cancel' hle, Nat.div_mul_cancel hdvd]⟩

/-- No ready event comes within a clock period. -/
theorem not_readyEvent_of_mem_period {s : State} {j n : Nat} (hlt : readyEdge s j < n)
    (hlt' : n < readyEdge s j + period s) : ¬ ReadyEvent s n :=
  fun ⟨_, hn⟩ => ne_mul_of_mem_period hlt hlt' _ hn

theorem CycleStart.ticks_pos {s : State} (h : CycleStart s) : 0 < s.highTicks.toNat ∧ 0 < s.lowTicks.toNat :=
  halfTicks_pos h.inv.params_legal (h.inv.config_valid ((busy_iff _).2 (.inl h.state)))

section
variable {s u v : State} {k : Nat} (h : CycleStart s) (hbusy : BusyBefore k s) (hrun : RunsTo k s u) (hu : Running u)
  (hst : step u = .next v)
include h hbusy hrun hu hst

/-- Along a running cycle the flag is raised at the ready events, and kept while a conversion is pending. -/
theorem sampleReadyFlag_iff_of_edge (hv : Running v) :
    v.sampleReadyFlag = true ↔ (u.sampleReadyFlag = true ∧ u.adcPending = true) ∨ ReadyEvent s (k + 1) := by
  have hinv := inv_runsTo h.inv hrun
  obtain ⟨hb, hto⟩ := hu
  obtain ⟨hrst, _⟩ := step_running hinv hb hst hv
  obtain ⟨⟨_, _, _, _, hthreshold⟩, _⟩ := cycleTime_eq_of_runsTo h hbusy hrun ⟨hb, hto⟩
  obtain ⟨hcount, _⟩ := firingTimesExact s u k h hbusy hrun hb hto
  obtain ⟨hcount', _⟩ := firingTimesExact s v (k + 1) h (busyBefore_succ hbusy hrun hb) (runsTo_succ_last.2 ⟨u, hrun, hst⟩)
    hv.1 hv.2
  have hperiod : 0 < period s := Nat.add_pos_left h.ticks_pos.2 _
  rw [step_sampleReadyFlag_iff hb hrst hto hst, readyEvent_succ_iff hperiod, hthreshold,
    h.inv.threshold ((busy_iff _).2 (.inl h.state)), Ne, ← BitVec.toNat_inj, hcount, hcount', thresholdClocks]

/-- A flag that is set only at the beginning of a clock period is clear at its end, so no window is lost there (R130, R220). -/
theorem overrunFlag_of_edge (hready : u.sampleReadyFlag = true → ∃ m, k = m * period s) (hclear : u.overrunFlag = false) :
    v.overrunFlag = false := by
  by_contra hset
  obtain ⟨hcause, _⟩ := errorCauses u v hst
  obtain ⟨_, hflag, hhigh, _⟩ := hcause hclear (Bool.eq_true_of_not_eq_false hset)
  obtain ⟨m, rfl⟩ := hready hflag
  have hlow := (clockPhase_low_iff h hbusy hrun hu).2 (by rw [Nat.mul_mod_left]; exact h.ticks_pos.2)
  simp [hlow] at hhigh

end

/-! ## No window is lost (R266) -/

/-- Every conversion request of the cycle is answered within a clock period (the premise of R266). -/
def AnswersPromptly (s : State) : Prop :=
  ∀ j u, BusyBefore j s → RunsTo j s u → u.adcStart = true →
    ∃ d, 1 ≤ d ∧ d + 1 ≤ period s ∧ (inputAt s (j + d - 1)).adcDone = true

/-- `k` edges after START the cycle is past the beginning of a clock period, and an edge still to come in it, its last one included,
delivers a sample. -/
def AnswerComing (s : State) (k : Nat) : Prop :=
  ∃ m n, m * period s < k ∧ k ≤ n ∧ n < m * period s + period s ∧ (inputAt s n).adcDone = true

/-- The handshake `k` edges after START under a prompt ADC: a sample is ready at the beginning of a clock period only, and a pending
request is answered within its period. -/
structure PromptHandshake (s : State) (k : Nat) (u : State) : Prop where
  ready : u.sampleReadyFlag = true → ∃ m, k = m * period s
  pending : u.adcPending = true → AnswerComing s k

theorem PromptHandshake.not_ready_and_pending {s u : State} {k : Nat} (h : PromptHandshake s k u) :
    ¬ (u.sampleReadyFlag = true ∧ u.adcPending = true) := by
  rintro ⟨hready, hpending⟩
  obtain ⟨m', hk⟩ := h.ready hready
  obtain ⟨m, n, hlt, hle, hlt', _⟩ := h.pending hpending
  exact ne_mul_of_mem_period hlt (by omega) m' hk

theorem CycleStart.promptHandshake {s : State} (h : CycleStart s) : PromptHandshake s 0 s := by
  obtain ⟨hready, hpending, _⟩ := h.inv.before_reading (.inl h.state)
  exact ⟨by simp [hready], by simp [hpending]⟩

section
variable {s : State} (h : CycleStart s) (hprompt : AnswersPromptly s)
include h hprompt

theorem promptHandshake_edge {u v : State} {k : Nat} (hbusy : BusyBefore k s) (hrun : RunsTo k s u) (hu : Running u)
    (hst : step u = .next v) (hv : Running v) (hinv : PromptHandshake s k u) : PromptHandshake s (k + 1) v := by
  obtain ⟨hb, hto⟩ := hu
  have hgood := inv_runsTo h.inv hrun
  obtain ⟨hrst, _⟩ := step_running hgood hb hst hv
  refine ⟨fun hready => ?ready, fun hpending => ?pending⟩
  case ready =>
    rcases (sampleReadyFlag_iff_of_edge h hbusy hrun ⟨hb, hto⟩ hst hv).1 hready with hboth | ⟨_, hk⟩
    · exact absurd hboth hinv.not_ready_and_pending
    · exact ⟨_, hk⟩
  case pending =>
    rw [step_adcPending hb hrst hto hst, nextInput_of_runsTo hrun] at hpending
    cases hwas : u.adcPending with
    | true =>
      obtain ⟨m, n, hlt, hle, hlt', hdone⟩ := hinv.pending hwas
      have hne : k ≠ n := by
        rintro rfl
        simp [hwas, hdone] at hpending
      exact ⟨m, n, by omega, by omega, hlt', hdone⟩
    | false =>
      have hready : u.sampleReadyFlag = true := by simpa [hwas] using hpending
      obtain ⟨m, rfl⟩ := hinv.ready hready
      obtain ⟨_, hpulse⟩ := conversionRequestPulse
      have hstart : v.adcStart = true := (hpulse u v hgood hst).2 ⟨hrst, hb, hto, hwas, hready⟩
      obtain ⟨d, hd, hd', hdone⟩ :=
        hprompt _ v (busyBefore_succ hbusy hrun hb) (runsTo_succ_last.2 ⟨u, hrun, hst⟩) hstart
      exact ⟨m, m * period s + 1 + d - 1, by omega, by omega, by omega, hdone⟩

theorem promptHandshake_of_runsTo {t : State} {k : Nat} (hbusy : BusyBefore k s) (hrun : RunsTo k s t) (ht : Running t) :
    PromptHandshake s k t := by
  have hall : (BusyBefore k s ∧ RunsTo k s t) ∧ PromptHandshake s k t := by
    refine running_induction (I := fun j u => (BusyBefore j s ∧ RunsTo j s u) ∧ PromptHandshake s j u) h.inv
      ⟨⟨fun _ hj => absurd hj (Nat.not_lt_zero _), runsTo_zero.2 rfl⟩, h.promptHandshake⟩ ?_ hbusy hrun ht
    rintro j u v _ hu hst hv ⟨⟨hbusy, hrun⟩, hinv⟩
    exact ⟨⟨busyBefore_succ hbusy hrun hu.1, runsTo_succ_last.2 ⟨u, hrun, hst⟩⟩,
      promptHandshake_edge h hprompt hbusy hrun hu hst hv hinv⟩
  obtain ⟨_, hinv⟩ := hall
  exact hinv

/-- An edge of a busy cycle under a prompt ADC records no lost window: reset clears the flag, the end of a timed-out cycle leaves it
alone, and in a running cycle the handshake keeps `sampleReadyFlag` clear at the end of a period. -/
theorem overrunFlag_of_prompt_edge {u v : State} {k : Nat} (hbusy : BusyBefore k s) (hrun : RunsTo k s u)
    (hb : busy u.state = true) (hst : step u = .next v) (hclear : u.overrunFlag = false) : v.overrunFlag = false := by
  cases hrst : (nextInput u).rst with
  | true =>
    rw [step_of_rst hrst, Host.Outcome.next.injEq] at hst
    exact hst ▸ rfl
  | false =>
    cases hto : u.timeoutFlag with
    | true =>
      obtain ⟨r, e⟩ := timeoutEndsCycle u hrst hb hto
      rw [e, Host.Outcome.next.injEq] at hst
      exact hst ▸ hclear
    | false =>
      have hinv := promptHandshake_of_runsTo h hprompt hbusy hrun ⟨hb, hto⟩
      exact overrunFlag_of_edge h hbusy hrun ⟨hb, hto⟩ hst hinv.ready hclear

end

/-- Settles O52, by induction on the number of edges. -/
theorem noLostWindow : Obligations.NoLostWindow := by
  intro s h hprompt k
  induction k with
  | zero =>
    intro t _ hrun
    rw [← runsTo_zero.1 hrun]
    exact h.no_overrun
  | succ k ih =>
    intro t hbusy hrun
    obtain ⟨u, hu, hst⟩ := runsTo_succ_last.1 hrun
    obtain ⟨u', hu', hb⟩ := hbusy k k.lt_succ_self
    obtain rfl := runsTo_unique hu hu'
    have hbefore : BusyBefore k s := fun j hj => hbusy j (Nat.lt_succ_of_lt hj)
    exact overrunFlag_of_prompt_edge h hprompt hbefore hu hb hst (ih u hbefore hu)

end Sys2Proof.Machine
end

section
/-! PROOFS. The ordinary cycle (R272): where each edge of the cycle stands between the ready event and the push of a sample
(`CaptureStage`), that every edge before the last push takes the cycle on to the next stage, and the edge of the last push.  Then the
statement. -/

namespace Sys2Proof.Machine

/-! ## The edge of the last push (R156, R159) -/

theorem params_of_runsTo {k : Nat} {s t : State} (hrun : RunsTo k s t) : t.params = s.params := by
  induction k generalizing s with
  | zero => rw [runsTo_zero.1 hrun]
  | succ k ih =>
    obtain ⟨u, hst, hrun⟩ := runsTo_succ.1 hrun
    rw [ih hrun, step_params hst]

/-- The push that fills the buffer ends the cycle, and its DISARM leaves TICK nothing to do at this edge. -/
theorem step_last_push {s t : State} (h : Inv s) (hb : busy s.state = true) (hrst : (nextInput s).rst = false)
    (hto : s.timeoutFlag = false) (hpending : s.adcPending = true) (hdone : (nextInput s).adcDone = true)
    (hlast : s.cursor.toNat + 1 = s.params.pixelCount) (hst : step s = .next t) :
    t = { s with
      buf := t.buf, cursor := t.cursor, resp := t.resp, inputs := t.inputs, edge := t.edge
      armed := false, clkOut := true, trigOut := false, adcPending := false, adcStart := false, state := .complete } := by
  obtain ⟨r, rfl⟩ := step_busy hb (presented_ne_reset hrst) hst
  rw [readerPhase_eq_rdPush (s := { s with resp := r }) hto hpending hdone,
    rdPush_of_room _ (s := { s with resp := r }) h.params_legal (h.cursor_lt hb), if_pos hlast, tickPhase_of_disarmed rfl]
  rfl

/-- A running cycle runs on over an edge that is no reset, fills no buffer and completes no period at the limit (R163). -/
theorem running_of_step {s t : State} (h : Inv s) (hs : Running s) (hrst : (nextInput s).rst = false)
    (hst : step s = .next t) (hroom : t.cursor.toNat ≠ s.params.pixelCount)
    (hlimit : s.clockPhase = .high → s.clockCount ≠ s.cycleLimitClocks) : Running t := by
  obtain ⟨hb, hto⟩ := hs
  constructor
  · rcases stateTransitionTable s t h hst with ⟨hr, _⟩ | ⟨_, ⟨_, hrest, _⟩ | ⟨_, hrest, _⟩ | ⟨_, hrest, _⟩ | ⟨_, hstay, _⟩ |
      ⟨_, _, _, hnext⟩ | ⟨_, _, _, hnext⟩ | ⟨_, _, hfull, _⟩ | ⟨_, htimeout, _⟩⟩
    · exact absurd hr (presented_ne_reset hrst)
    · simp [hb] at hrest
    · simp [hb] at hrest
    · simp [hb] at hrest
    · rwa [hstay]
    · rw [hnext]; rfl
    · rw [hnext]; rfl
    · exact absurd hfull hroom
    · simp [hto] at htimeout
  · by_contra hset
    obtain ⟨_, hcause, _⟩ := errorCauses s t hst
    obtain ⟨_, hhigh, _, hcount, _⟩ := hcause hto (Bool.eq_true_of_not_eq_false hset)
    exact hlimit hhigh hcount

/-! ## The ordinary cycle (R272) -/

/-- The edge at which sample `j` is pushed when it comes `d j` edges after its RD_CONSUME edge. -/
def pushEdge (s : State) (d : Nat → Nat) (j : Nat) : Nat := readyEdge s j + 1 + d j

/-- The edge of the last push, with which the cycle ends. -/
def lastEdge (s : State) (d : Nat → Nat) : Nat := pushEdge s d (s.params.pixelCount - 1)

/-- The premises of R272, with `d j` the delay of sample `j`. -/
structure OrdinaryCycle (s : State) (d : Nat → Nat) : Prop where
  start : CycleStart s
  threshold_pos : 1 ≤ thresholdClocks s
  limit : thresholdClocks s + s.params.pixelCount - 1 ≤ s.cycleLimitClocks.toNat
  prompt : ∀ j < s.params.pixelCount, 1 ≤ d j ∧ d j + 1 ≤ period s
  last_low : d (s.params.pixelCount - 1) + 1 ≤ s.lowTicks.toNat
  no_reset : ∀ n < lastEdge s d, (inputAt s n).rst = false
  delivered : ∀ j < s.params.pixelCount, (inputAt s (pushEdge s d j - 1)).adcDone = true
  not_earlier : ∀ j < s.params.pixelCount, ∀ n, readyEdge s j + 1 ≤ n → n + 1 < pushEdge s d j →
    (inputAt s n).adcDone = false

/-- Where edge `k` of an ordinary cycle stands: before the first ready event, at the ready event of sample `j`, between its RD_CONSUME
and its push, or past its push. -/
inductive CaptureStage (s : State) (d : Nat → Nat) (k : Nat) (u : State) : Prop
  | early (before : k < readyEdge s 0)
      (ready : u.sampleReadyFlag = false) (pending : u.adcPending = false) (cursor : u.cursor.toNat = 0)
  | ready (j : Nat) (event : k = readyEdge s j)
      (ready : u.sampleReadyFlag = true) (pending : u.adcPending = false) (cursor : u.cursor.toNat = j)
  | waiting (j : Nat) (past : readyEdge s j < k) (before : k < pushEdge s d j)
      (ready : u.sampleReadyFlag = false) (pending : u.adcPending = true) (cursor : u.cursor.toNat = j)
  | stored (j : Nat) (past : pushEdge s d j ≤ k) (before : k < readyEdge s j + period s)
      (ready : u.sampleReadyFlag = false) (pending : u.adcPending = false) (cursor : u.cursor.toNat = j + 1)

/-- Every entry below the cursor holds its sample (R143). -/
def SamplesInOrder (s : State) (d : Nat → Nat) (u : State) : Prop :=
  ∀ j < u.cursor.toNat, bufEntry u j = truncateSample s.params.sampleBits (inputAt s (pushEdge s d j - 1)).adcData

/-- What every edge of an ordinary cycle before the last push keeps. -/
structure Capturing (s : State) (d : Nat → Nat) (k : Nat) (u : State) : Prop where
  stage : CaptureStage s d k u
  entries : SamplesInOrder s d u
  no_overrun : u.overrunFlag = false

theorem CaptureStage.ready_at_period_start {s u : State} {d : Nat → Nat} {k : Nat} (h : CaptureStage s d k u)
    (hready : u.sampleReadyFlag = true) : ∃ m, k = m * period s := by
  cases h with
  | early _ hclear | waiting _ _ _ hclear | stored _ _ _ hclear => simp [hclear] at hready
  | ready j hk => exact ⟨_, hk⟩

theorem CaptureStage.not_ready_and_pending {s u : State} {d : Nat → Nat} {k : Nat} (h : CaptureStage s d k u) :
    ¬ (u.sampleReadyFlag = true ∧ u.adcPending = true) := by
  rintro ⟨hready, hpending⟩
  cases h with
  | early _ hclear | waiting _ _ _ hclear | stored _ _ _ hclear => simp [hclear] at hready
  | ready _ _ _ hclear => simp [hclear] at hpending

/-- Past the push of sample `j` and up to the next ready event, that event alone changes the handshake. -/
theorem CaptureStage.of_pushed {s u : State} {d : Nat → Nat} {j n : Nat} (hpast : pushEdge s d j ≤ n)
    (hle : n ≤ readyEdge s j + period s) (hready : u.sampleReadyFlag = true ↔ ReadyEvent s n) (hpending : u.adcPending = false)
    (hcursor : u.cursor.toNat = j + 1) : CaptureStage s d n u := by
  have hlt : readyEdge s j < n := by
    unfold pushEdge at hpast
    omega
  rcases hle.lt_or_eq with hin | hevent
  · have hclear := mt hready.1 (not_readyEvent_of_mem_period hlt hin)
    exact .stored j hpast hin (Bool.eq_false_of_not_eq_true hclear) hpending hcursor
  · have hnext : n = readyEdge s (j + 1) := hevent.trans (readyEdge_succ s j).symm
    exact .ready (j + 1) hnext (hready.2 ⟨_, hnext⟩) hpending hcursor

section
variable {s : State} {d : Nat → Nat} (h : OrdinaryCycle s d)
include h

theorem OrdinaryCycle.pixelCount_pos : 1 ≤ s.params.pixelCount := by
  obtain ⟨hpos, _⟩ := h.start.inv.params_legal
  exact hpos

/-- Each sample is pushed in the clock period that its ready event begins, the period's last edge included. -/
theorem OrdinaryCycle.pushEdge_mem_period {j : Nat} (hj : j < s.params.pixelCount) :
    readyEdge s j + 1 < pushEdge s d j ∧
    pushEdge s d j ≤ readyEdge s j + period s := by
  obtain ⟨hpos, hle⟩ := h.prompt j hj
  unfold pushEdge
  omega

/-- Before the last push no ready event but those of the samples has come. -/
theorem OrdinaryCycle.lt_pixelCount {j k : Nat} (hj : readyEdge s j ≤ k) (hk : k < lastEdge s d) :
    j < s.params.pixelCount := by
  have hpos := h.pixelCount_pos
  by_contra hge
  obtain ⟨_, hlast⟩ := h.pushEdge_mem_period (j := s.params.pixelCount - 1) (by omega)
  have hle : readyEdge s (s.params.pixelCount - 1 + 1) ≤ readyEdge s j := readyEdge_le (by omega)
  rw [readyEdge_succ] at hle
  unfold lastEdge at hk
  omega

/-- The edges from the last ready event to the last push lie in the low half of their clock period. -/
theorem OrdinaryCycle.last_period {k : Nat} (hk : readyEdge s (s.params.pixelCount - 1) ≤ k)
    (hk' : k < lastEdge s d) :
    k / period s = thresholdClocks s + (s.params.pixelCount - 1) ∧
    k % period s = k - readyEdge s (s.params.pixelCount - 1) ∧ k % period s < s.lowTicks.toNat := by
  have hlow := h.last_low
  have hle : s.lowTicks.toNat ≤ period s := Nat.le_add_right _ _
  obtain ⟨_, hpos⟩ := h.start.ticks_pos
  unfold lastEdge pushEdge at hk'
  have hsplit : k - readyEdge s (s.params.pixelCount - 1) +
      period s * (thresholdClocks s + (s.params.pixelCount - 1)) = k := by
    rw [Nat.mul_comm (period s)]
    exact Nat.sub_add_cancel hk
  obtain ⟨hdiv, hmod⟩ := (Nat.div_mod_unique (by omega)).2 ⟨hsplit, by omega⟩
  exact ⟨hdiv, hmod, by omega⟩

theorem OrdinaryCycle.capturing_start : Capturing s d 0 s := by
  obtain ⟨hready, hpending, hcursor⟩ := h.start.inv.before_reading (.inl h.start.state)
  have hzero : s.cursor.toNat = 0 := congrArg BitVec.toNat hcursor
  obtain ⟨_, hpos⟩ := h.start.ticks_pos
  refine ⟨.early ?_ hready hpending hzero, fun j hj => absurd hj (by omega), h.start.no_overrun⟩
  exact Nat.mul_pos h.threshold_pos (Nat.add_pos_left hpos _)

/-- A sample is taken at the push edge of the entry it goes to. -/
theorem OrdinaryCycle.push_on_time {u : State} {k : Nat} (hstage : CaptureStage s d k u) (hk : k < lastEdge s d)
    (hpending : u.adcPending = true) (hdone : (inputAt s k).adcDone = true) :
    u.cursor.toNat < s.params.pixelCount ∧ k + 1 = pushEdge s d u.cursor.toNat := by
  cases hstage with
  | early _ _ hclear | ready _ _ _ hclear | stored _ _ _ _ hclear => simp [hclear] at hpending
  | waiting j hpast hbefore _ _ hcursor =>
    have hj := h.lt_pixelCount hpast.le hk
    rw [hcursor]
    refine ⟨hj, ?_⟩
    by_contra hne
    simp [h.not_earlier j hj k hpast (by omega)] at hdone

section
variable {u v : State} {k : Nat} (hbusy : BusyBefore k s) (hrun : RunsTo k s u) (hu : Running u)
  (hst : step u = .next v) (hinv : Capturing s d k u) (hk : k < lastEdge s d)
include hrun hk

theorem OrdinaryCycle.no_reset_at : (nextInput u).rst = false := nextInput_of_runsTo hrun ▸ h.no_reset k hk

include hu hst hinv

omit hinv in
theorem OrdinaryCycle.cursor_edge :
    v.cursor.toNat =
      if u.adcPending = true ∧ (inputAt s k).adcDone = true then u.cursor.toNat + 1 else u.cursor.toNat := by
  have hcursor := step_cursor hu.1 (h.no_reset_at hrun hk) hu.2 hst (inv_runsTo h.start.inv hrun)
  rwa [nextInput_of_runsTo hrun] at hcursor

/-- The edge that takes a sample stores it at the cursor, and no other edge touches an entry (R57, R143). -/
theorem OrdinaryCycle.entries_edge : SamplesInOrder s d v := by
  intro j hj
  rw [h.cursor_edge hrun hu hst hk] at hj
  rw [bufferWrittenOnlyByPush u v (h.no_reset_at hrun hk) hst, nextInput_of_runsTo hrun, params_of_runsTo hrun]
  split
  next hpush =>
    obtain ⟨_, _, hpending, hdone, _, rfl⟩ := hpush
    obtain ⟨_, hedge⟩ := h.push_on_time hinv.stage hk hpending hdone
    rw [← hedge, Nat.add_sub_cancel]
  next hkeep =>
    refine hinv.entries j ?_
    by_contra hge
    split at hj
    next hpush =>
      obtain ⟨hpending, hdone⟩ := hpush
      obtain ⟨hroom, _⟩ := h.push_on_time hinv.stage hk hpending hdone
      exact hkeep ⟨hu.1, hu.2, hpending, hdone, hroom.ne, by omega⟩
    next => exact hge hj

include hbusy

/-- Before the last push no edge ends the cycle: a push before it leaves room, and the count reaches the limit with the last ready
event at the earliest, after which the half-period is a low one. -/
theorem OrdinaryCycle.running_edge (hk' : k + 1 < lastEdge s d) : Running v := by
  have hgood := inv_runsTo h.start.inv hrun
  refine running_of_step hgood hu (h.no_reset_at hrun hk) hst ?room fun hhigh hcount => ?limit
  case room =>
    have hroom := hgood.cursor_lt hu.1
    rw [h.cursor_edge hrun hu hst hk, params_of_runsTo hrun]
    rw [params_of_runsTo hrun] at hroom
    split
    next hpush =>
      obtain ⟨hpending, hdone⟩ := hpush
      obtain ⟨_, hedge⟩ := h.push_on_time hinv.stage hk hpending hdone
      intro hfull
      rw [hedge, lastEdge, ← hfull, Nat.add_sub_cancel] at hk'
      exact lt_irrefl _ hk'
    next => exact hroom.ne
  case limit =>
    obtain ⟨⟨_, _, _, hlimit, _⟩, _⟩ := cycleTime_eq_of_runsTo h.start hbusy hrun hu
    obtain ⟨hdiv, _⟩ := firingTimesExact s u k h.start hbusy hrun hu.1 hu.2
    have hle := h.limit
    have hpos := h.pixelCount_pos
    have hcycle : readyEdge s (s.params.pixelCount - 1) ≤ k :=
      Nat.mul_le_of_le_div _ _ _ (by rw [← hdiv, hcount, hlimit]; omega)
    obtain ⟨_, _, hmod⟩ := h.last_period hcycle hk
    simp [(clockPhase_low_iff h.start hbusy hrun hu).2 hmod] at hhigh

/-- Every edge before the last push takes the cycle on to the stage of the next edge. -/
theorem OrdinaryCycle.stage_edge (hk' : k + 1 < lastEdge s d) : CaptureStage s d (k + 1) v := by
  have hv := h.running_edge hbusy hrun hu hst hinv hk hk'
  have hcursor := h.cursor_edge hrun hu hst hk
  have hpend := step_adcPending hu.1 (h.no_reset_at hrun hk) hu.2 hst
  have hready := sampleReadyFlag_iff_of_edge h.start hbusy hrun hu hst hv
  rw [nextInput_of_runsTo hrun] at hpend
  rw [or_iff_right hinv.stage.not_ready_and_pending] at hready
  cases hinv.stage with
  | early hbefore hclear hnone hzero =>
    simp only [hclear, hnone, hzero, reduceCtorEq, if_false, false_and] at hpend hcursor
    rcases (Nat.succ_le_of_lt hbefore).lt_or_eq with hstill | hevent
    · have hno : ¬ ReadyEvent s (k + 1) := fun ⟨j, hj⟩ => by
        have hle := readyEdge_le (s := s) (Nat.zero_le j)
        omega
      exact .early hstill (Bool.eq_false_of_not_eq_true (mt hready.1 hno)) hpend hcursor
    · exact .ready 0 hevent (hready.2 ⟨0, hevent⟩) hpend hcursor
  | ready j hevent hset hnone hj =>
    simp only [hset, hnone, hj, reduceCtorEq, if_false, false_and] at hpend hcursor
    obtain ⟨hlt, hle⟩ := h.pushEdge_mem_period (h.lt_pixelCount hevent.ge hk)
    have hno : ¬ ReadyEvent s (k + 1) := not_readyEvent_of_mem_period (j := j) (by omega) (by omega)
    exact .waiting j (by omega) (by omega) (Bool.eq_false_of_not_eq_true (mt hready.1 hno)) hpend hcursor
  | waiting j hpast hbefore hclear hsome hj =>
    have hpix := h.lt_pixelCount hpast.le hk
    obtain ⟨_, hle⟩ := h.pushEdge_mem_period hpix
    rcases (Nat.succ_le_of_lt hbefore).lt_or_eq with hstill | hpush
    · have hwait := h.not_earlier j hpix k hpast hstill
      simp only [hsome, hwait, hj, reduceCtorEq, if_true, if_false, and_false, Bool.not_false] at hpend hcursor
      have hno : ¬ ReadyEvent s (k + 1) := not_readyEvent_of_mem_period (j := j) (by omega) (by omega)
      exact .waiting j (by omega) hstill (Bool.eq_false_of_not_eq_true (mt hready.1 hno)) hpend hcursor
    · have hdone := h.delivered j hpix
      rw [← hpush, Nat.succ_eq_add_one, Nat.add_sub_cancel] at hdone
      simp only [hsome, hdone, hj, if_true, and_self, Bool.not_true] at hpend hcursor
      exact .of_pushed hpush.ge (by omega) hready hpend hcursor
  | stored j hpast hbefore hclear hnone hj =>
    simp only [hclear, hnone, hj, reduceCtorEq, if_false, false_and] at hpend hcursor
    exact .of_pushed (Nat.le_succ_of_le hpast) hbefore hready hpend hcursor

theorem OrdinaryCycle.capturing_edge (hk' : k + 1 < lastEdge s d) : Capturing s d (k + 1) v where
  stage := h.stage_edge hbusy hrun hu hst hinv hk hk'
  entries := h.entries_edge hrun hu hst hinv hk
  no_overrun := overrunFlag_of_edge h.start hbusy hrun hu hst hinv.stage.ready_at_period_start hinv.no_overrun

end

/-- The cycle runs up to the edge before the last push, by induction on the number of edges. -/
theorem OrdinaryCycle.runs {k : Nat} (hk : k < lastEdge s d) :
    ∃ u, RunsTo k s u ∧ BusyBefore k s ∧ Running u ∧ Capturing s d k u := by
  induction k with
  | zero =>
    have hrunning : Running s :=
      ⟨(busy_iff _).2 (.inl h.start.state), h.start.inv.priming_no_timeout h.start.state⟩
    exact ⟨s, runsTo_zero.2 rfl, fun _ hj => absurd hj (Nat.not_lt_zero _), hrunning, h.capturing_start⟩
  | succ k ih =>
    have hk' := Nat.lt_of_succ_lt hk
    obtain ⟨u, hrun, hbusy, hu, hinv⟩ := ih hk'
    obtain ⟨v, hst⟩ := step_next u
    exact ⟨v, runsTo_succ_last.2 ⟨u, hrun, hst⟩, busyBefore_succ hbusy hrun hu.1,
      h.running_edge hbusy hrun hu hst hinv hk' hk, h.capturing_edge hbusy hrun hu hst hinv hk' hk⟩

/-- Just before the last push the last request is pending. -/
theorem OrdinaryCycle.waiting_at_last {u : State} {k : Nat} (hstage : CaptureStage s d k u) (hk : k + 1 = lastEdge s d) :
    u.sampleReadyFlag = false ∧ u.adcPending = true ∧ u.cursor.toNat + 1 = s.params.pixelCount := by
  have hpos := h.pixelCount_pos
  obtain ⟨hlt, hle⟩ := h.pushEdge_mem_period (j := s.params.pixelCount - 1) (by omega)
  rw [← lastEdge, ← hk] at hlt hle
  cases hstage with
  | early hbefore =>
    have hmono := readyEdge_le (s := s) (Nat.zero_le (s.params.pixelCount - 1))
    omega
  | ready j hevent =>
    have hno : ¬ ReadyEvent s k := not_readyEvent_of_mem_period (j := s.params.pixelCount - 1) (by omega) (by omega)
    exact absurd ⟨j, hevent⟩ hno
  | waiting j hpast hbefore hclear hsome hj =>
    obtain ⟨_, hend⟩ := h.pushEdge_mem_period (h.lt_pixelCount hpast.le (by omega))
    have hlast : j = s.params.pixelCount - 1 :=
      eq_of_mem_periods (n := k) hpast.le (by omega) (by omega) (by omega)
    exact ⟨hclear, hsome, by omega⟩
  | stored j hpast hbefore =>
    have hpast' : readyEdge s j ≤ k := by
      unfold pushEdge at hpast
      omega
    have hlast : j = s.params.pixelCount - 1 := eq_of_mem_periods hpast' hbefore (by omega) (by omega)
    rw [hlast, ← lastEdge] at hpast
    omega

/-- The counters after the last push: the last ready event was the last FIRE_FALL, `d` timer units before (R108). -/
theorem OrdinaryCycle.counters_at_last {u : State} {k : Nat} (hbusy : BusyBefore k s) (hrun : RunsTo k s u) (hu : Running u)
    (hk : k + 1 = lastEdge s d) :
    u.clockCount.toNat = thresholdClocks s + s.params.pixelCount - 1 ∧ u.clockPhase = .low ∧ u.tickCompare = s.lowTicks ∧
    u.tickCount.toNat = d (s.params.pixelCount - 1) := by
  have hpos := h.pixelCount_pos
  have hdelay : k = readyEdge s (s.params.pixelCount - 1) + d (s.params.pixelCount - 1) := by
    rw [lastEdge, pushEdge] at hk
    omega
  obtain ⟨hdiv, hmod, hlt⟩ := h.last_period (k := k) (by omega) (by omega)
  obtain ⟨hcount, hlow, _⟩ := firingTimesExact s u k h.start hbusy hrun hu.1 hu.2
  obtain ⟨hphase, htick, hcompare⟩ := hlow hlt
  exact ⟨by omega, hphase, hcompare, by omega⟩

/-- The last edge of the cycle pushes the last sample and leaves the block as R272 says. -/
theorem OrdinaryCycle.completes :
    ∃ t, RunsTo (lastEdge s d) s t ∧ BusyBefore (lastEdge s d) s ∧ t.state = .complete ∧
      t.cursor.toNat = s.params.pixelCount ∧
      (∀ j < s.params.pixelCount,
        bufEntry t j = truncateSample s.params.sampleBits (inputAt s (pushEdge s d j - 1)).adcData) ∧
      t.clockCount.toNat = thresholdClocks s + s.params.pixelCount - 1 ∧ t.clockPhase = .low ∧ t.tickCompare = s.lowTicks ∧
      t.tickCount.toNat = d (s.params.pixelCount - 1) ∧ t.sampleReadyFlag = false ∧ statusWord t = 0x0044 := by
  have hpos := h.pixelCount_pos
  obtain ⟨k, hk⟩ : ∃ k, k + 1 = lastEdge s d := ⟨_, Nat.succ_pred_eq_of_pos (by unfold lastEdge pushEdge; omega)⟩
  have hlt : k < lastEdge s d := by omega
  obtain ⟨u, hrun, hbusy, hu, hinv⟩ := h.runs hlt
  obtain ⟨t, hst⟩ := step_next u
  have hgood := inv_runsTo h.start.inv hrun
  have hparams := params_of_runsTo hrun
  have hrst := h.no_reset_at hrun hlt
  obtain ⟨hclear, hpending, hlast⟩ := h.waiting_at_last hinv.stage hk
  have hdone : (inputAt s k).adcDone = true := by
    have hdelivered := h.delivered (s.params.pixelCount - 1) (by omega)
    rwa [← lastEdge, ← hk, Nat.add_sub_cancel] at hdelivered
  have hcursor := h.cursor_edge hrun hu hst hlt
  rw [if_pos ⟨hpending, hdone⟩, hlast] at hcursor
  have hentries := h.entries_edge hrun hu hst hinv hlt
  rw [SamplesInOrder, hcursor] at hentries
  obtain ⟨hcount, hphase, hcompare, htick⟩ := h.counters_at_last hbusy hrun hu hk
  have hend := step_last_push hgood hu.1 hrst hu.2 hpending (nextInput_of_runsTo hrun ▸ hdone) (hparams ▸ hlast) hst
  refine ⟨t, hk ▸ runsTo_succ_last.2 ⟨u, hrun, hst⟩, hk ▸ busyBefore_succ hbusy hrun hu.1, ?state, hcursor, hentries, ?rest⟩
  case state => rw [hend]
  case rest =>
    rw [hend]
    refine ⟨hcount, hphase, hcompare, htick, hclear, ?_⟩
    exact Eq.trans (statusWord_of_clean_rest (st := .complete) rfl rfl rfl rfl hphase hclear rfl
      ⟨hgood.no_capacity_error, hgood.no_config_error hu.1, hu.2, hinv.no_overrun⟩) (by decide)

end

/-- Settles O53: the run up to the edge before the last push, then that push; the counters are those of the last ready event plus the
`d` timer units since. -/
theorem ordinaryCycleCapturesAllSamples : Obligations.OrdinaryCycleCapturesAllSamples := by
  intro s d _ _ _ hstart hthr hlimit hprompt hlow hreset hadc
  have hdelivered := fun j hj => (hadc j hj).left
  have hnot_earlier := fun j hj => (hadc j hj).right
  exact OrdinaryCycle.completes ⟨hstart, hthr, hlimit, hprompt, hlow, hreset, hdelivered, hnot_earlier⟩

end Sys2Proof.Machine
end
